-- ==== Sys2Proof/Word.lean ====
section
/-! DEFINITION. The widths of the values of Anduril DSM/CR (spec/00_scope.md R7, R8, R12; spec/10_state.md section 1).
Every value is an unsigned integer of a stated width; bit 0 is the least significant. -/

namespace Sys2Proof

/-- An 8-bit duty value: `integer_duty`, `duty_out`, `cnt_top` (R21, R24, R31). -/
abbrev Duty := BitVec 8

/-- A 7-bit value: `fraction` and `accumulator` (R22, R25). -/
abbrev Frac := BitVec 7

/-- A 15-bit ramp level: the high 8 bits are the integer duty, the low 7 bits the fraction (R14). -/
abbrev RampLevel := BitVec 15

/-- An 8-bit blend ratio: 0 is all channel 1 (warm), 255 all channel 2 (cool) (R34, R143). -/
abbrev BlendRatio := BitVec 8

/-- The 20-bit word of one host command (R70). -/
abbrev CommandWord := BitVec 20

/-- The selector `op`, bits [19:16] of a command word (R70). -/
abbrev Opcode := BitVec 4

/-- The operand `arg`, bits [15:0] of a command word (R70). -/
abbrev Arg := BitVec 16

/-- The two strobe pins read as the vector `rst, ovf`, `rst` being bit 1 (R77). -/
abbrev StrobePins := BitVec 2

end Sys2Proof
end

