-- ==== Sys2Proof/Syntax.lean ====
section
/-! DEFINITION. The operations of Anduril DSM/CR, the port values that carry them, and the assembler lines of the spec's
test programs (spec/30_encoding.md; spec/20_memory.md R50). -/

namespace Sys2Proof

/-- The five channel modes, a closed set (R35, R137). The codes 5, 6 and 7 of the 3-bit register are never stored (R35):
log entry 4. -/
inductive ChanMode where
  /-- Code 0: the whole level on channel 1 (R140). -/
  | ch1Only
  /-- Code 1: the whole level on channel 2 (R141). -/
  | ch2Only
  /-- Code 2: the level on both channels (R142). -/
  | bothTied
  /-- Code 3: the level split by the `blend` register (R143). -/
  | manualBlend
  /-- Code 4: the level split by a ratio derived from the level itself (R145). -/
  | autoBlend
deriving DecidableEq, Repr

/-- The two modes of the shared counter (R32). No rule of the spec reads them (R93). -/
inductive CntMode where
  /-- Stored as 0. -/
  | phaseCorrect
  /-- Stored as 1. -/
  | fast
deriving DecidableEq, Repr

/-- The six operations (R72), one constructor per row of spec/opcode_table.json. Operands are as R81 decodes them: the
16-bit operands are unclamped, the clamp being part of the meaning (R78). -/
inductive Instr where
  /-- CONFIGURE: the counter's top value and mode (R90). -/
  | configure (top : Duty) (cmode : CntMode)
  /-- SET_CHANNEL_MODE: a mode code, any 16-bit value (R150). -/
  | setChannelMode (m : Arg)
  /-- SET_RAMP: a requested level, any 16-bit value (R151). -/
  | setRamp (level : Arg)
  /-- SET_BLEND: a requested ratio, any 16-bit value (R152). -/
  | setBlend (ratio : Arg)
  /-- RESET: the strobe `rst` (R200). -/
  | reset
  /-- TICK: the strobe `ovf`, one overflow of the shared counter (R100). -/
  | tick
deriving DecidableEq, Repr

/-- Why a port value is no operation. Both are no event of the block: a reserved word is ignored (R79), and idle strobe
pins say nothing (R77). -/
inductive NoOperation where
  /-- The word's `op` is 0x0 or 0x5 to 0xF (R71, R79). -/
  | reservedOpcode (op : Opcode)
  /-- The strobe pins are `00` (R77). -/
  | idleStrobe
deriving DecidableEq, Repr

/-- The two formats in which an operation is presented: CW, a command word (R70), and ST, the strobe pins (R77). -/
inductive PortWord where
  /-- `cmd_word` with `cmd_valid` = 1. -/
  | command (w : CommandWord)
  /-- The pins `rst, ovf`. -/
  | strobe (pins : StrobePins)
deriving DecidableEq, Repr

/-- The input ports as one rising edge of `clk` samples them (R50). -/
structure Edge where
  /-- `rst`, active high. -/
  rst : Bool
  /-- `cmd_valid`: `cmdWord` holds a command at this edge. -/
  cmdValid : Bool
  /-- `cmd_word`. -/
  cmdWord : CommandWord
  /-- `ovf`: the shared counter overflowed. -/
  ovf : Bool
deriving DecidableEq, Repr

/-- The operand of SET_CHANNEL_MODE in a test program: a name of R74 or a number (R82). -/
inductive ModeArg where
  /-- One of the five names. -/
  | name (m : ChanMode)
  /-- A number. -/
  | number (n : Nat)
deriving DecidableEq, Repr

/-- One line of a test program (R82) with the pseudo-operations of R83. Numbers are as written, unchecked. -/
inductive AsmLine where
  /-- `RESET` -/
  | reset
  /-- `CONFIGURE top, cmode` -/
  | configure (top : Nat) (cmode : CntMode)
  /-- `SET_CHANNEL_MODE mode` -/
  | setChannelMode (mode : ModeArg)
  /-- `SET_RAMP level` -/
  | setRamp (level : Nat)
  /-- `SET_BLEND ratio` -/
  | setBlend (ratio : Nat)
  /-- `TICK` -/
  | tick
  /-- `TICKS n` -/
  | ticks (n : Nat)
  /-- `WORD 0xhhhhh` -/
  | word (w : Nat)
deriving DecidableEq, Repr

end Sys2Proof
end

