-- ==== Sys2Proof/WellFormed.lean ====
section
/-! DEFINITION. What may be written: the bounds of R82 and of the operand fields on assembler lines, and, on instructions,
nothing beyond their types (spec/30_encoding.md R78, R80, R82; log entry 6). -/

namespace Sys2Proof

/-- Every instruction term is well formed. Each operand's type is exactly its field (R73 to R76), every value of a field is
a legal encoding (R80), and an out-of-range operand is clamped by the operation, not refused (R78, R171). -/
def Instr.wellFormed : Instr → Bool
  | .configure _ _ => true
  | .setChannelMode _ => true
  | .setRamp _ => true
  | .setBlend _ => true
  | .reset => true
  | .tick => true

/-- R82: 'A number outside 0..65535 cannot be written.' -/
def writableNumber (n : Nat) : Bool := decide (n ≤ 65535)

/-- What an assembler line may say: a number is at most 65535 (R82), a `top` fits its 8-bit field (R73, R90), a literal
word has five hexadecimal digits (R83). The count of TICKS is any n ≥ 0 (R83) that can be written (R82). -/
def AsmLine.wellFormed : AsmLine → Bool
  | .reset => true
  | .configure top _ => decide (top ≤ 255)
  | .setChannelMode (.name _) => true
  | .setChannelMode (.number n) => writableNumber n
  | .setRamp level => writableNumber level
  | .setBlend ratio => writableNumber ratio
  | .tick => true
  | .ticks n => writableNumber n
  | .word w => decide (w < 2 ^ 20)

end Sys2Proof
end

