-- ==== Sys2Proof/Decode.lean ====
section
/-! DEFINITION. Decoding and encoding of the operations (spec/30_encoding.md R70 to R81, R84). Decoding is total and needs
no state; what is no operation is named, and ignored by the block (R79). -/

namespace Sys2Proof

/-! ### Codes of the enumerations -/

/-- The code of a channel mode (R35). -/
def chanModeCode : ChanMode → BitVec 3
  | .ch1Only => 0
  | .ch2Only => 1
  | .bothTied => 2
  | .manualBlend => 3
  | .autoBlend => 4

/-- The bit that stores a counter mode (R32). -/
def cntModeBit : CntMode → Bool
  | .phaseCorrect => false
  | .fast => true

/-- The counter mode a `cmode` bit selects (R73). -/
def cntModeOfBit : Bool → CntMode
  | false => .phaseCorrect
  | true => .fast

/-! ### Decoding -/

/-- `op`, bits [19:16] (R70). -/
def opField (w : CommandWord) : Opcode := w.extractLsb' 16 4

/-- `arg`, bits [15:0] (R70). -/
def argField (w : CommandWord) : Arg := w.extractLsb' 0 16

/-- The `decode` of R81 on a command word. `arg[15:9]` of CONFIGURE is ignored (R73, R80). -/
def decodeCommand (w : CommandWord) : Except NoOperation Instr :=
  match (opField w).toNat with
  | 1 => .ok (.configure ((argField w).extractLsb' 0 8) (cntModeOfBit ((argField w).getLsbD 8)))
  | 2 => .ok (.setChannelMode (argField w))
  | 3 => .ok (.setRamp (argField w))
  | 4 => .ok (.setBlend (argField w))
  | _ => .error (.reservedOpcode (opField w))

/-- Format ST (R77): `1x` is RESET, `01` is TICK, `00` is no strobe event. -/
def decodeStrobe (pins : StrobePins) : Except NoOperation Instr :=
  if pins.getLsbD 1 then .ok .reset
  else if pins.getLsbD 0 then .ok .tick
  else .error .idleStrobe

/-- The operation a port value carries, in either format. -/
def decode : PortWord → Except NoOperation Instr
  | .command w => decodeCommand w
  | .strobe pins => decodeStrobe pins

/-! ### The events of one edge -/

/-- An edge that is no event (R52). -/
def Edge.idle : Edge := { rst := false, cmdValid := false, cmdWord := 0, ovf := false }

/-- The edge that presents one operation and nothing else. -/
def Edge.ofPortWord : PortWord → Edge
  | .command w => { rst := false, cmdValid := true, cmdWord := w, ovf := false }
  | .strobe pins => { rst := pins.getLsbD 1, cmdValid := false, cmdWord := 0, ovf := pins.getLsbD 0 }

/-- The strobe pins of an edge as the vector `rst, ovf` (R77). -/
def Edge.strobes (e : Edge) : StrobePins := BitVec.ofBool e.rst ++ BitVec.ofBool e.ovf

/-- An operation is one event; what is none is no event (R52, R79). -/
def eventOf : Except NoOperation Instr → List Instr
  | .ok i => [i]
  | .error _ => []

/-- R52: with `rst`, RESET alone; else the command, if one is valid, and then the tick, if the counter overflowed. -/
def edgeEvents (e : Edge) : List Instr :=
  if e.rst then eventOf (decodeStrobe e.strobes)
  else (if e.cmdValid then eventOf (decodeCommand e.cmdWord) else []) ++ eventOf (decodeStrobe e.strobes)

/-! ### Encoding -/

/-- A command word from its selector and operand (R70). -/
def commandWord (op : Opcode) (arg : Arg) : CommandWord := op ++ arg

/-- The operand of CONFIGURE with its reserved bits zero (R73). -/
def configureArg (top : Duty) (cmode : CntMode) : Arg :=
  (0 : BitVec 7) ++ (BitVec.ofBool (cntModeBit cmode) ++ top)

/-- The port value that presents an operation. The ignored bits are zero: `arg[15:9]` of CONFIGURE and the pin `ovf` of
RESET. -/
def encode : Instr → PortWord
  | .configure top cmode => .command (commandWord 1 (configureArg top cmode))
  | .setChannelMode m => .command (commandWord 2 m)
  | .setRamp level => .command (commandWord 3 level)
  | .setBlend ratio => .command (commandWord 4 ratio)
  | .reset => .strobe 0b10
  | .tick => .strobe 0b01

/-! ### The opcode table -/

/-- One row of spec/opcode_table.json; a word of the row's format is the row's when its bits under `mask` are `value`. -/
structure OpcodeRow where
  /-- The row's mnemonic. -/
  mnemonic : String
  /-- The mask and the value in the row's own format. -/
  shape : Sum (CommandWord × CommandWord) (StrobePins × StrobePins)
deriving DecidableEq, Repr

/-- The table, in its order. -/
def opcodeTable : List OpcodeRow :=
  [ { mnemonic := "CONFIGURE", shape := .inl (0xF0000, 0x10000) },
    { mnemonic := "SET_CHANNEL_MODE", shape := .inl (0xF0000, 0x20000) },
    { mnemonic := "SET_RAMP", shape := .inl (0xF0000, 0x30000) },
    { mnemonic := "SET_BLEND", shape := .inl (0xF0000, 0x40000) },
    { mnemonic := "RESET", shape := .inr (0b10, 0b10) },
    { mnemonic := "TICK", shape := .inr (0b11, 0b01) } ]

/-- Whether a port value is of a row's format and has the row's fixed bits. -/
def OpcodeRow.admits (r : OpcodeRow) : PortWord → Bool
  | .command w => match r.shape with
    | .inl (mask, value) => w &&& mask == value
    | .inr _ => false
  | .strobe pins => match r.shape with
    | .inl _ => false
    | .inr (mask, value) => pins &&& mask == value

/-- The mnemonic of an operation (R71, R72). -/
def mnemonicOf : Instr → String
  | .configure _ _ => "CONFIGURE"
  | .setChannelMode _ => "SET_CHANNEL_MODE"
  | .setRamp _ => "SET_RAMP"
  | .setBlend _ => "SET_BLEND"
  | .reset => "RESET"
  | .tick => "TICK"

/-! ### The host's numbering of a table row's bits -/

/-- The port value for a table row's bits `w`, `nbits` being the row's width in whole bytes: rows of format ST have 2 bits
(one byte), rows of format CW 20 (three bytes). The ports have no wire above bit 1 or bit 19: log entry 7. -/
def portWordOfBits (nbits w : Nat) : PortWord :=
  if nbits ≤ 8 then .strobe (BitVec.ofNat 2 w) else .command (BitVec.ofNat 20 w)

/-- The instruction the decoder reads from a table row's bits. -/
def decodeTableWord (nbits w : Nat) : Option Instr :=
  match decode (portWordOfBits nbits w) with
  | .ok i => some i
  | .error _ => none

end Sys2Proof
end

