-- ==== Sys2Proof/Config.lean ====
section
/-! DEFINITION. The parameters of spec/00_scope.md: R7, which the document fixes, and R8, which it leaves open. The spec
leaves no value of an operation open, so there is no free value here. -/

namespace Sys2Proof.Config

/-- `DUTY_MAX`: the largest duty value ever written (R7). -/
def dutyMax : Nat := 255

/-- `FRAC_MOD`: the carry threshold of a DSM step (R7). -/
def fracMod : Nat := 128

/-- `RAMP_MAX`: the largest valid ramp level (R7; spec/90_conflicts.md C1). -/
def rampMax : Nat := 32640

/-- The largest blend ratio, of `BLEND_BITS` = 8 bits (R7, R15). -/
def blendMax : Nat := 255

/-- The largest channel-mode code, `N_MODES` = 5 less one (R7, R15), there being no extension modes (R8, R156). -/
def modeMax : Nat := 4

/-- `BLEND_DEFAULT`: the reset value of `blend` (R7). -/
def blendDefault : BlendRatio := 128

/-- `TOP_DEFAULT`: the reset value of `cnt_top` (R7). -/
def topDefault : Duty := 255

/-- The OPEN parameters of R8, which 'are arguments of the model': plain data that the state carries and no step writes, so
that a statement about every state is one about every value of them. DESIGN CHOICE: log entries 2 and 3. -/
structure Params where
  /-- `RESET_MODE`: `chan_mode` after RESET (R34). -/
  resetMode : ChanMode
  /-- `RESET_CNT_MODE`: `cnt_mode` after RESET (R32). -/
  resetCntMode : CntMode
  /-- `DSM_GATE`: whether a channel with `fraction` = 0 skips its DSM step (R108). -/
  dsmGate : Bool
deriving DecidableEq, Repr

/-- The defaults R8 gives: CH1_ONLY, PHASE_CORRECT, false. -/
def Params.default : Params := { resetMode := .ch1Only, resetCntMode := .phaseCorrect, dsmGate := false }

end Sys2Proof.Config
end

