-- ==== Sys2Proof/Machine/State.lean ====
section
/-! DEFINITION. The state of Anduril DSM/CR (spec/10_state.md), its value after RESET (spec/70_reset_and_hazards.md R200),
and the reasons a step can stop, of which the spec gives none (spec/60_exceptions.md R170). -/

namespace Sys2Proof.Machine

open Sys2Proof.Config (Params)

/-- The two physical channels (R3). -/
inductive ChannelId where
  /-- Channel 1, warm. -/
  | one
  /-- Channel 2, cool. -/
  | two
deriving DecidableEq, Repr

/-- The five registers of one channel (R20 to R25). -/
structure Channel where
  /-- `integer_duty`: the high 8 bits of the channel's target (R21). -/
  integerDuty : Duty
  /-- `fraction`: the low 7 bits of the channel's target (R22). -/
  fraction : Frac
  /-- `accumulator`: the delta-sigma error accumulator (R25). -/
  accumulator : Frac
  /-- `enabled`: the supply of the channel's analog stage (R23). -/
  enabled : Bool
  /-- `duty_out`: the channel's duty register (R24). -/
  dutyOut : Duty
deriving DecidableEq, Repr

/-- A channel after RESET (R200). -/
def Channel.reset : Channel :=
  { integerDuty := 0, fraction := 0, accumulator := 0, enabled := false, dutyOut := 0 }

/-- The whole state: the registers of spec/10_state.md section 1, and two fields of the MODEL's own, `inputs` (log entry 1)
and `params` (log entry 2). There is no program counter (R28) and no memory (R53). -/
structure State where
  /-- `ch[1]`. -/
  ch1 : Channel
  /-- `ch[2]`. -/
  ch2 : Channel
  /-- `cnt_top` (R31). -/
  cntTop : Duty
  /-- `cnt_mode` (R32). -/
  cntMode : CntMode
  /-- `cfg_locked` (R33). -/
  cfgLocked : Bool
  /-- `global_ramp` (R34). -/
  globalRamp : RampLevel
  /-- `chan_mode` (R34, R35). -/
  chanMode : ChanMode
  /-- `blend` (R34). -/
  blend : BlendRatio
  /-- The edges the two agents still have to present, the oldest first (R50, R52). -/
  inputs : List Edge
  /-- The open parameters of R8. -/
  params : Params
deriving DecidableEq, Repr

/-- Why the block stops with a fault: never. R170: 'The block raises no exception and has no trap mechanism'. The type has
no constructor, so no meaning can fault; safe, since a claim about every outcome covers every outcome there is. -/
inductive Fault where
deriving DecidableEq, Repr

/-- Why the model gives no meaning. -/
inductive Refusal where
  /-- An instruction that has no meaning yet. Raised by no arm of this model; safe, since it would only stop a run. -/
  | notModelled (mnemonic : String)
deriving DecidableEq, Repr

/-- The state of R200 under the open parameters `p`: every register at its reset value, no edge waiting. -/
def State.resetWith (p : Params) : State :=
  { ch1 := Channel.reset
    ch2 := Channel.reset
    cntTop := Config.topDefault
    cntMode := p.resetCntMode
    cfgLocked := false
    globalRamp := 0
    chanMode := p.resetMode
    blend := Config.blendDefault
    inputs := []
    params := p }

/-- The machine right after RESET, with the defaults R8 gives the open parameters. -/
def State.reset : State := State.resetWith Params.default

end Sys2Proof.Machine
end

