-- ==== Sys2Proof/Machine/Operands.lean ====
section
/-! DEFINITION. The operands: clamping, the split of a ramp level, and the blend arithmetic (spec/00_scope.md R14, R15;
spec/43_mode_resolver.md R143, R145). Everything is computed exactly on naturals and narrowed at the end (R12). -/

namespace Sys2Proof.Machine

/-! ### Clamping (R15) -/

/-- `clamp_ramp` (R15). -/
def clampRamp (v : Nat) : RampLevel := BitVec.ofNat 15 (min v Config.rampMax)

/-- `clamp_blend` (R15). -/
def clampBlend (v : Nat) : BlendRatio := BitVec.ofNat 8 (min v Config.blendMax)

/-- The channel mode of a code 0..4 (R35, R74). -/
def chanModeOfCode : Nat → ChanMode
  | 0 => .ch1Only
  | 1 => .ch2Only
  | 2 => .bothTied
  | 3 => .manualBlend
  | _ => .autoBlend

/-- `clamp_mode` (R15): the mode whose code is min(v, 4). -/
def clampMode (v : Nat) : ChanMode := chanModeOfCode (min v Config.modeMax)

/-! ### The two parts of a ramp level (R14) -/

/-- `int(r)`, bits [14:7] (R14). -/
def intPart (r : RampLevel) : Duty := r.extractLsb' 7 8

/-- `frac(r)`, bits [6:0] (R14). -/
def fracPart (r : RampLevel) : Frac := r.extractLsb' 0 7

/-- integer_duty * 128 + fraction (R14): the field pair put together again. -/
def rampOf (i : Duty) (f : Frac) : RampLevel := i ++ f

/-- A channel's current target, integer_duty * 128 + fraction, as a natural (R40). -/
def Channel.ramp (ch : Channel) : Nat := ch.integerDuty.toNat * Config.fracMod + ch.fraction.toNat

/-! ### Blending (R143, R145) -/

/-- `BLEND2` (R143): channel 2 gets g*b/255 rounded to nearest, channel 1 the rest. -/
def blend2 (g : RampLevel) (b : BlendRatio) : RampLevel × RampLevel :=
  let c2 := (b.toNat * g.toNat + 127) / 255
  (BitVec.ofNat 15 (g.toNat - c2), BitVec.ofNat 15 c2)

/-- `b_auto` (R145): the integer part of the level. -/
def autoBlendRatio (g : RampLevel) : BlendRatio := intPart g

end Sys2Proof.Machine
end

