-- ==== Sys2Proof/Machine/Flags.lean ====
section
/-! DEFINITION. The one-bit conditions: the stored flag `enabled`, and the two that are not stored, the carry of a DSM step
and the armed condition (spec/10_state.md R29, R43). The third stored flag, `cfg_locked`, is only ever set or cleared. -/

namespace Sys2Proof.Machine

/-- `enabled` for a new target (R121): the target is nonzero. -/
def enabledFor (r : RampLevel) : Bool := decide (0 < r.toNat)

/-- The 8-bit sum of a DSM step, 0..254 (R26, R104). -/
def dsmSum (ch : Channel) : Nat := ch.accumulator.toNat + ch.fraction.toNat

/-- The carry of a DSM step (R17, R104): the sum reaches 128. -/
def dsmCarry (ch : Channel) : Bool := decide (Config.fracMod ≤ dsmSum ch)

/-- `armed(c)` (R177): a function of the fraction, not a stored bit (R43). -/
def armed (ch : Channel) : Bool := decide (ch.fraction.toNat ≠ 0)

end Sys2Proof.Machine
end

