-- ==== Sys2Proof/Machine/Ops.lean ====
section
/-! DEFINITION. The shared operations: access to the registers, the internal operations RESOLVE, SET_TARGET, PROPAGATE and
DSM_STEP (spec/00_scope.md R11), the sampling of the input ports and the output ports (spec/20_memory.md R50 to R52). The
block takes no exception and returns from none (spec/60_exceptions.md R170, R181, R182), so there is no operation for
either; its one interrupt, the overflow, is the whole transition TICK. -/

namespace Sys2Proof.Machine

/-! ### Access to the registers -/

/-- `ch[c]` (R13). -/
def State.ch (s : State) : ChannelId → Channel
  | .one => s.ch1
  | .two => s.ch2

/-- `ch[c] <- x` (R13). -/
def State.setCh (s : State) (c : ChannelId) (x : Channel) : State :=
  match c with
  | .one => { s with ch1 := x }
  | .two => { s with ch2 := x }

/-- The one write of CounterConfig: both members and the lock together (R90). -/
def State.lockConfig (s : State) (top : Duty) (cmode : CntMode) : State :=
  { s with cntTop := top, cntMode := cmode, cfgLocked := true }

/-- `global_ramp <- g`. -/
def State.latchRamp (s : State) (g : RampLevel) : State := { s with globalRamp := g }

/-- `chan_mode <- m`. -/
def State.latchMode (s : State) (m : ChanMode) : State := { s with chanMode := m }

/-- `blend <- b`. -/
def State.latchBlend (s : State) (b : BlendRatio) : State := { s with blend := b }

/-- The state with other edges waiting; no register changes. -/
def State.withInputs (s : State) (es : List Edge) : State := { s with inputs := es }

/-! ### The resolver -/

/-- RESOLVE (R148): the two targets. It reads nothing else and writes nothing (R135). -/
def resolve (g : RampLevel) (m : ChanMode) (b : BlendRatio) : RampLevel × RampLevel :=
  match m with
  | .ch1Only => (g, 0)
  | .ch2Only => (0, g)
  | .bothTied => (g, g)
  | .manualBlend => blend2 g b
  | .autoBlend => blend2 g (autoBlendRatio g)

/-! ### The output driver -/

/-- What SET_TARGET writes in a channel (R120, R121): the clamped target's two parts, the enable and the first duty write.
The accumulator is not written (R124). -/
def Channel.setTarget (ch : Channel) (ramp : RampLevel) : Channel :=
  let r := clampRamp ramp.toNat
  { ch with integerDuty := intPart r, fraction := fracPart r, enabled := enabledFor r, dutyOut := intPart r }

/-- SET_TARGET(c, ramp) (R121). -/
def State.setTarget (s : State) (c : ChannelId) (ramp : RampLevel) : State :=
  s.setCh c ((s.ch c).setTarget ramp)

/-- PROPAGATE (R149): both channels get the targets of the latched inputs, whether or not these changed (R129). -/
def State.propagate (s : State) : State :=
  let t := resolve s.globalRamp s.chanMode s.blend
  (s.setTarget .one t.1).setTarget .two t.2

/-! ### The delta-sigma modulator -/

/-- What DSM_STEP writes in a channel (R101): on a carry the duty plus one, saturated at 255 (R102), and the sum less 128;
else the duty and the sum. -/
def Channel.dsmStep (ch : Channel) : Channel :=
  if dsmCarry ch then
    { ch with dutyOut := BitVec.ofNat 8 (min (ch.integerDuty.toNat + 1) Config.dutyMax)
              accumulator := BitVec.ofNat 7 (dsmSum ch - Config.fracMod) }
  else
    { ch with dutyOut := ch.integerDuty
              accumulator := BitVec.ofNat 7 (dsmSum ch) }

/-- A channel's part of TICK under DSM_GATE (R108): with the gate, a channel that is not armed skips its step. -/
def Channel.gatedStep (gate : Bool) (ch : Channel) : Channel :=
  if gate && !armed ch then ch else ch.dsmStep

/-- DSM_STEP(c), under the state's DSM_GATE (R101, R108). -/
def State.dsmStep (s : State) (c : ChannelId) : State :=
  s.setCh c ((s.ch c).gatedStep s.params.dsmGate)

/-- The two DSM steps of one overflow (R100). They touch disjoint state, so their order cannot be observed. -/
def State.tick (s : State) : State := (s.dsmStep .one).dsmStep .two

/-! ### The ports -/

/-- The edge that the next rising edge of `clk` samples, and the state with that edge consumed. With no edge waiting the
ports are idle, which is no event (R52; log entry 1). -/
def State.sample (s : State) : Edge × State :=
  match s.inputs with
  | [] => (Edge.idle, s)
  | e :: rest => (e, s.withInputs rest)

/-- The output ports of one channel (R51). -/
structure ChannelOutputs where
  /-- `duty_out[c]`. -/
  duty : Duty
  /-- `en_out[c]`: 1 means the analog stage is supplied. -/
  en : Bool
  /-- `armed[c]`, the optional informational output. -/
  armed : Bool
deriving DecidableEq, Repr

/-- The output ports (R51). -/
structure Outputs where
  /-- The outputs of channel 1. -/
  ch1 : ChannelOutputs
  /-- The outputs of channel 2. -/
  ch2 : ChannelOutputs
  /-- `cnt_top`. -/
  cntTop : Duty
  /-- `cnt_mode`. -/
  cntMode : Bool
deriving DecidableEq, Repr

/-- The outputs of a channel: continuous copies of its registers (R51). -/
def Channel.outputs (x : Channel) : ChannelOutputs := { duty := x.dutyOut, en := x.enabled, armed := armed x }

/-- The outputs: continuous copies of registers, with no logic between (R51). -/
def State.outputs (s : State) : Outputs :=
  { ch1 := s.ch1.outputs, ch2 := s.ch2.outputs, cntTop := s.cntTop, cntMode := cntModeBit s.cntMode }

end Sys2Proof.Machine
end

