-- ==== Sys2Proof/Machine/CounterConfig.lean ====
section
/-! DEFINITION. The PWM counter abstraction: CONFIGURE (spec/40_counter_config.md). -/

namespace Sys2Proof.Machine

/-- CONFIGURE (R90): the first one after RESET writes CounterConfig and locks it; a later one is ignored (R91). -/
def execConfigure (top : Duty) (cmode : CntMode) (s : State) : Host.Outcome State Fault Refusal :=
  .next (if s.cfgLocked then s else s.lockConfig top cmode)

end Sys2Proof.Machine
end

