-- ==== Sys2Proof/Machine/Modulator.lean ====
section
/-! DEFINITION. The delta-sigma modulator engine: TICK (spec/41_dsm_engine.md). -/

namespace Sys2Proof.Machine

/-- TICK (R100): a DSM step of each channel. It writes no flag and raises nothing (R110). -/
def execTick (s : State) : Host.Outcome State Fault Refusal :=
  .next s.tick

end Sys2Proof.Machine
end

