-- ==== Sys2Proof/Machine/ResetUnit.lean ====
section
/-! DEFINITION. RESET (spec/70_reset_and_hazards.md). -/

namespace Sys2Proof.Machine

/-- RESET (R200): every register to its reset value. The open parameters and the edges still to come are no registers of
the block and stay (log entries 1 and 2). -/
def execReset (s : State) : Host.Outcome State Fault Refusal :=
  .next ((State.resetWith s.params).withInputs s.inputs)

end Sys2Proof.Machine
end

