-- ==== Sys2Proof/Machine/Resolver.lean ====
section
/-! DEFINITION. The channel mode resolver's three commands (spec/43_mode_resolver.md section 4). Each latches its clamped
operand and propagates to both channels in the same transition (R149). -/

namespace Sys2Proof.Machine

/-- SET_CHANNEL_MODE (R150). -/
def execSetChannelMode (m : Arg) (s : State) : Host.Outcome State Fault Refusal :=
  .next (s.latchMode (clampMode m.toNat)).propagate

/-- SET_RAMP (R151). -/
def execSetRamp (level : Arg) (s : State) : Host.Outcome State Fault Refusal :=
  .next (s.latchRamp (clampRamp level.toNat)).propagate

/-- SET_BLEND (R152). -/
def execSetBlend (ratio : Arg) (s : State) : Host.Outcome State Fault Refusal :=
  .next (s.latchBlend (clampBlend ratio.toNat)).propagate

end Sys2Proof.Machine
end

