-- ==== Sys2Proof/Machine/Dispatch.lean ====
section
/-! DEFINITION. One arm per operation of spec/opcode_table.json. -/

namespace Sys2Proof.Machine

def exec (i : Instr) (s : State) : Host.Outcome State Fault Refusal :=
  match i with
  | .configure top cmode => Sys2Proof.Machine.execConfigure top cmode s
  | .setChannelMode m => Sys2Proof.Machine.execSetChannelMode m s
  | .setRamp level => Sys2Proof.Machine.execSetRamp level s
  | .setBlend ratio => Sys2Proof.Machine.execSetBlend ratio s
  | .reset => Sys2Proof.Machine.execReset s
  | .tick => Sys2Proof.Machine.execTick s

end Sys2Proof.Machine
end

