-- ==== Sys2Proof/Machine/Events.lean ====
section
/-! DEFINITION. The events of one clock edge, applied in their order (spec/20_memory.md R52, R62, R63). -/

namespace Sys2Proof.Machine

/-- The events in order, each on the state the one before it left (R62), stopping at the first that does not go on. -/
def runEvents : List Instr → State → Host.Outcome State Fault Refusal
  | [], s => .next s
  | i :: rest, s =>
    match exec i s with
    | .next t => runEvents rest t
    | .fault r => .fault r
    | .refused r => .refused r

/-- One rising edge of `clk` with the ports at `e` (R52). -/
def runEdge (e : Edge) (s : State) : Host.Outcome State Fault Refusal := runEvents (edgeEvents e) s

end Sys2Proof.Machine
end

