-- ==== Sys2Proof/Machine/Step.lean ====
section
/-! DEFINITION. The step: one rising edge of `clk` (spec/20_memory.md R50, R52). -/

namespace Sys2Proof.Machine

/-- One rising edge of `clk`: the oldest waiting edge is sampled and its events take effect (R52). -/
def step (s : State) : Host.Outcome State Fault Refusal :=
  runEdge s.sample.1 s.sample.2

/-- The state in which the very next edge presents the table row's bits `w` and nothing else; the edges that were waiting
follow it (log entry 7). -/
def State.withFetchWord (s : State) (nbits w : Nat) : State :=
  s.withInputs (Edge.ofPortWord (portWordOfBits nbits w) :: s.inputs)

end Sys2Proof.Machine
end

