-- ==== Sys2Proof/Machine/Assembler.lean ====
section
/-! DEFINITION. The line form of the spec's test programs (spec/30_encoding.md R82, R83): what a line stands for, and how
its characters are read. Blanks, the comma and the case of hexadecimal digits: log entry 8. -/

namespace Sys2Proof.Machine

/-! ### What a line stands for -/

/-- The channel-mode operand as the 16-bit code it is sent as (R74). -/
def modeArgCode : ModeArg → Nat
  | .name m => (chanModeCode m).toNat
  | .number n => n

/-- The edge that presents one operation. -/
def eventEdge (i : Instr) : Edge := Edge.ofPortWord (encode i)

/-- The edges a line stands for, one event an edge (R82); `TICKS n` is n TICK lines and `WORD` the literal word (R83). -/
def lineEdges : AsmLine → List Edge
  | .reset => [eventEdge .reset]
  | .configure top cmode => [eventEdge (.configure (BitVec.ofNat 8 top) cmode)]
  | .setChannelMode mode => [eventEdge (.setChannelMode (BitVec.ofNat 16 (modeArgCode mode)))]
  | .setRamp level => [eventEdge (.setRamp (BitVec.ofNat 16 level))]
  | .setBlend ratio => [eventEdge (.setBlend (BitVec.ofNat 16 ratio))]
  | .tick => [eventEdge .tick]
  | .ticks n => List.replicate n (eventEdge .tick)
  | .word w => [Edge.ofPortWord (.command (BitVec.ofNat 20 w))]

/-- A program's edges; none where a line cannot be written (R82). -/
def assemble : List AsmLine → Option (List Edge)
  | [] => some []
  | l :: rest => if l.wellFormed then (assemble rest).map (lineEdges l ++ ·) else none

/-! ### Reading the characters of a line -/

/-- The tokens of a line, `word` holding the open one in reverse: blanks separate, a comma stands alone, `;` ends the line
(R82). -/
def tokensFrom (word : List Char) : List Char → List (List Char)
  | [] => closed word
  | c :: cs =>
    if c = ';' then closed word
    else if c = ' ' ∨ c = '\t' then closed word ++ tokensFrom [] cs
    else if c = ',' then closed word ++ [','] :: tokensFrom [] cs
    else tokensFrom (c :: word) cs
where
  /-- The open token, if it has a character. -/
  closed (word : List Char) : List (List Char) := if word.isEmpty then [] else [word.reverse]

/-- The value of a digit in the given base. -/
def digitValue (base : Nat) (c : Char) : Option Nat :=
  let n := c.toNat
  let v := if 48 ≤ n ∧ n ≤ 57 then n - 48
    else if 65 ≤ n ∧ n ≤ 70 then n - 55
    else if 97 ≤ n ∧ n ≤ 102 then n - 87
    else base
  if v < base then some v else none

/-- The number a list of digits spells, continuing from `acc`. -/
def digitsFrom (base acc : Nat) : List Char → Option Nat
  | [] => some acc
  | c :: cs => (digitValue base c).bind fun v => digitsFrom base (acc * base + v) cs

/-- A number: decimal, or hexadecimal after `0x` (R82). -/
def readNumber : List Char → Option Nat
  | [] => none
  | ['0', 'x'] => none
  | '0' :: 'x' :: ds => digitsFrom 16 0 ds
  | ds => digitsFrom 10 0 ds

/-- A literal word: `0x` and five hexadecimal digits (R83). -/
def readWord : List Char → Option Nat
  | '0' :: 'x' :: ds => if ds.length = 5 then digitsFrom 16 0 ds else none
  | _ => none

/-- A name of R74. -/
def readModeName (t : List Char) : Option ChanMode :=
  if t = ['C', 'H', '1', '_', 'O', 'N', 'L', 'Y'] then some .ch1Only
  else if t = ['C', 'H', '2', '_', 'O', 'N', 'L', 'Y'] then some .ch2Only
  else if t = ['B', 'O', 'T', 'H', '_', 'T', 'I', 'E', 'D'] then some .bothTied
  else if t = ['M', 'A', 'N', 'U', 'A', 'L', '_', 'B', 'L', 'E', 'N', 'D'] then some .manualBlend
  else if t = ['A', 'U', 'T', 'O', '_', 'B', 'L', 'E', 'N', 'D'] then some .autoBlend
  else none

/-- A mode operand: a name or a number (R82). -/
def readModeArg (t : List Char) : Option ModeArg :=
  match readModeName t with
  | some m => some (.name m)
  | none => (readNumber t).map .number

/-- `PHASE_CORRECT` or `FAST` (R82). -/
def readCntMode (t : List Char) : Option CntMode :=
  if t = ['P', 'H', 'A', 'S', 'E', '_', 'C', 'O', 'R', 'R', 'E', 'C', 'T'] then some .phaseCorrect
  else if t = ['F', 'A', 'S', 'T'] then some .fast
  else none

/-- A line from its mnemonic and its operand tokens (R82, R83); none where the tokens are of no line's form. -/
def readOperation (name : List Char) (args : List (List Char)) : Option AsmLine :=
  match args with
  | [] =>
    if name = ['R', 'E', 'S', 'E', 'T'] then some .reset
    else if name = ['T', 'I', 'C', 'K'] then some .tick
    else none
  | [t] =>
    if name = ['S', 'E', 'T', '_', 'C', 'H', 'A', 'N', 'N', 'E', 'L', '_', 'M', 'O', 'D', 'E'] then
      (readModeArg t).map .setChannelMode
    else if name = ['S', 'E', 'T', '_', 'R', 'A', 'M', 'P'] then (readNumber t).map .setRamp
    else if name = ['S', 'E', 'T', '_', 'B', 'L', 'E', 'N', 'D'] then (readNumber t).map .setBlend
    else if name = ['T', 'I', 'C', 'K', 'S'] then (readNumber t).map .ticks
    else if name = ['W', 'O', 'R', 'D'] then (readWord t).map .word
    else none
  | [top, [','], cmode] =>
    if name = ['C', 'O', 'N', 'F', 'I', 'G', 'U', 'R', 'E'] then
      (readNumber top).bind fun n => (readCntMode cmode).map (.configure n)
    else none
  | _ => none

/-- A line of a test program: none for a line that cannot be read or written (R82), the empty list for a line with no
event, else its one event line. -/
def readLine (cs : List Char) : Option (List AsmLine) :=
  match tokensFrom [] cs with
  | [] => some []
  | name :: args => (readOperation name args).bind fun l => if l.wellFormed then some [l] else none

end Sys2Proof.Machine
end

