-- ==== Sys2Proof/Safety.lean ====
section
/-! DEFINITION. What the claims speak of: the invariants of spec/10_state.md section 7, the states a run reaches, and the
duty values ticks write. -/

namespace Sys2Proof.Machine

/-! ### The invariants (spec/10_state.md R36 to R41) -/

/-- R36: `duty_out` is the integer duty or one more, and is the integer duty when the fraction is 0. -/
abbrev Channel.DutyNearTarget (x : Channel) : Prop :=
  (x.dutyOut.toNat = x.integerDuty.toNat ∨ x.dutyOut.toNat = x.integerDuty.toNat + 1) ∧
    (x.fraction.toNat = 0 → x.dutyOut = x.integerDuty)

/-- R38: the target is at most 32640. -/
abbrev Channel.TargetInRange (x : Channel) : Prop := x.ramp ≤ Config.rampMax

/-- R39: the analog stage is supplied exactly when the target is nonzero. -/
abbrev Channel.EnabledIffLit (x : Channel) : Prop := x.enabled = decide (0 < x.ramp)

/-- R36, R38 and R39 of one channel; R37 holds by the accumulator's width. -/
structure Channel.Inv (x : Channel) : Prop where
  /-- R36. -/
  duty : x.DutyNearTarget
  /-- R38. -/
  range : x.TargetInRange
  /-- R39. -/
  gating : x.EnabledIffLit

/-- R40: the two channels' targets are the resolver's output for the latched inputs. -/
abbrev State.TargetsResolved (s : State) : Prop :=
  (s.ch1.ramp, s.ch2.ramp) =
    ((resolve s.globalRamp s.chanMode s.blend).1.toNat, (resolve s.globalRamp s.chanMode s.blend).2.toNat)

/-- R41, R7: the mode's declared power cap, 100% of one channel or 200%. -/
def powerCap : ChanMode → Nat
  | .ch1Only => 32640
  | .ch2Only => 32640
  | .bothTied => 65280
  | .manualBlend => 32640
  | .autoBlend => 65280

/-- The invariant of the reachable state: R36 and R38 to R41. -/
structure State.Inv (s : State) : Prop where
  /-- R36, R38, R39 of channel 1. -/
  ch1 : s.ch1.Inv
  /-- R36, R38, R39 of channel 2. -/
  ch2 : s.ch2.Inv
  /-- R40. -/
  targets : s.TargetsResolved
  /-- R41, the level. -/
  level : s.globalRamp.toNat ≤ Config.rampMax
  /-- R41, the power cap. -/
  power : s.ch1.ramp + s.ch2.ramp ≤ powerCap s.chanMode

/-! ### The rules' effects in naturals, for the claims to compare with -/

/-- RESOLVE as R148 writes it, on naturals. -/
def targetsOf (g : Nat) (m : ChanMode) (b : Nat) : Nat × Nat :=
  let bsel := if m = .autoBlend then g / 128 else b
  let c2 := (bsel * g + 127) / 255
  let c1 := g - c2
  match m with
  | .ch1Only => (g, 0)
  | .ch2Only => (0, g)
  | .bothTied => (g, g)
  | .manualBlend => (c1, c2)
  | .autoBlend => (c1, c2)

/-- SET_TARGET as R121 writes it: `y` is channel `x` after the target `ramp` is installed. -/
structure Channel.TargetInstalled (x y : Channel) (ramp : Nat) : Prop where
  /-- `integer_duty <- r[14:7]`, r being min(ramp, 32640). -/
  integerDuty : y.integerDuty.toNat = min ramp 32640 / 128
  /-- `fraction <- r[6:0]`. -/
  fraction : y.fraction.toNat = min ramp 32640 % 128
  /-- `enabled <- (r > 0)`. -/
  enabled : y.enabled = decide (0 < min ramp 32640)
  /-- `duty_out <- r[14:7]`. -/
  dutyOut : y.dutyOut.toNat = min ramp 32640 / 128
  /-- The accumulator is not written. -/
  accumulator : y.accumulator = x.accumulator

/-- DSM_STEP as R101 writes it: `y` is channel `x` after one step. -/
structure Channel.Stepped (x y : Channel) : Prop where
  /-- `s >= 128`: the duty plus one, saturated, and the sum less 128. -/
  carry : 128 ≤ x.accumulator.toNat + x.fraction.toNat →
    y.dutyOut.toNat = min (x.integerDuty.toNat + 1) 255 ∧
      y.accumulator.toNat = x.accumulator.toNat + x.fraction.toNat - 128
  /-- Else: the duty and the sum. -/
  noCarry : x.accumulator.toNat + x.fraction.toNat < 128 →
    y.dutyOut = x.integerDuty ∧ y.accumulator.toNat = x.accumulator.toNat + x.fraction.toNat
  /-- The integer duty is not written. -/
  integerDuty : y.integerDuty = x.integerDuty
  /-- The fraction is not written. -/
  fraction : y.fraction = x.fraction
  /-- The enable is not written. -/
  enabled : y.enabled = x.enabled

/-- The latched inputs of the resolver are the same in both states. -/
abbrev State.SameLatches (s t : State) : Prop :=
  t.globalRamp = s.globalRamp ∧ t.chanMode = s.chanMode ∧ t.blend = s.blend

/-- CounterConfig and its lock are the same in both states. -/
abbrev State.SameConfig (s t : State) : Prop :=
  t.cntTop = s.cntTop ∧ t.cntMode = s.cntMode ∧ t.cfgLocked = s.cfgLocked

/-- The model's own fields are the same in both states. -/
abbrev State.SameSurroundings (s t : State) : Prop := t.inputs = s.inputs ∧ t.params = s.params

/-- Both channels of `t` have the targets of R148 for the given latched inputs, installed as R121 says. -/
def State.Propagated (s t : State) (g : Nat) (m : ChanMode) (b : Nat) : Prop :=
  s.ch1.TargetInstalled t.ch1 (targetsOf g m b).1 ∧ s.ch2.TargetInstalled t.ch2 (targetsOf g m b).2

/-! ### Runs -/

/-- The state after `n` edges from `s` is `t`. -/
def RunsTo (n : Nat) (s t : State) : Prop := Host.Core.run Sys2Proof.core n s = .next t

/-- `t` is reached from RESET, under some open parameters, by some edges of the two agents (R9, R10). -/
def Reachable (t : State) : Prop :=
  ∃ (p : Config.Params) (es : List Edge) (n : Nat), RunsTo n ((State.resetWith p).withInputs es) t

/-- The edge of one TICK: only `ovf` is 1 (R77). -/
def tickEdge : Edge := { rst := false, cmdValid := false, cmdWord := 0, ovf := true }

/-- The path of targets (ramp(1), ramp(2)) that a sequence of SET_RAMP commands drives. -/
def State.rampPath : List Arg → State → List (Nat × Nat)
  | [], _ => []
  | level :: rest, s =>
    match exec (.setRamp level) s with
    | .next t => (t.ch1.ramp, t.ch2.ramp) :: State.rampPath rest t
    | .fault _ => []
    | .refused _ => []

/-- The state after `n` TICKs. -/
def State.ticked (s : State) : Nat → State
  | 0 => s
  | n + 1 => (s.ticked n).tick

/-- The duty value that TICK number `k + 1` from `s` leaves in channel `c`'s duty register. -/
def State.dutyAfterTick (s : State) (c : ChannelId) (k : Nat) : Nat := ((s.ticked (k + 1)).ch c).dutyOut.toNat

/-- The sum of the duty values that `n` TICKs from `s` write in channel `c`. -/
def State.dutySum (s : State) (c : ChannelId) : Nat → Nat
  | 0 => 0
  | n + 1 => s.dutySum c n + s.dutyAfterTick c n

/-- How many of `n` TICKs from `s` write the value `d` in channel `c`. -/
def State.dutyCount (s : State) (c : ChannelId) (d : Nat) : Nat → Nat
  | 0 => 0
  | n + 1 => s.dutyCount c d n + if s.dutyAfterTick c n = d then 1 else 0

end Sys2Proof.Machine
end

