-- ==== Sys2Proof/Certificates/Slice0/Obligations.lean ====
section
/-! DEFINITION. The statements for the provers. Each docstring names the rule of spec/ it formalises; where the spec marks
that rule as its own decision (D<n> of spec/92_eei_decisions.md) or as derived from other rules, or where the model itself
chose (a log entry), the docstring says so and the statement's basis is 'derived'. -/

section Statements

open Sys2Proof Sys2Proof.Machine

/-! ### Encoding -/

/-- R70, R71, R73 to R76, R79 to R81, in naturals: what each of the 2^20 command words decodes to. The encoding is the
spec's own decision (D3, D4, D6, D7). -/
def Obligations.CommandWordDecodesByOpMap : Prop :=
  ∀ w : CommandWord,
    (w.toNat / 65536 = 1 → decode (.command w) =
      .ok (.configure (BitVec.ofNat 8 (w.toNat % 256)) (if w.toNat / 256 % 2 = 0 then .phaseCorrect else .fast))) ∧
    (w.toNat / 65536 = 2 → decode (.command w) = .ok (.setChannelMode (BitVec.ofNat 16 (w.toNat % 65536)))) ∧
    (w.toNat / 65536 = 3 → decode (.command w) = .ok (.setRamp (BitVec.ofNat 16 (w.toNat % 65536)))) ∧
    (w.toNat / 65536 = 4 → decode (.command w) = .ok (.setBlend (BitVec.ofNat 16 (w.toNat % 65536)))) ∧
    (w.toNat / 65536 = 0 ∨ 5 ≤ w.toNat / 65536 →
      decode (.command w) = .error (.reservedOpcode (BitVec.ofNat 4 (w.toNat / 65536))))

/-- R77: what the four values of the strobe pins decode to. The pins are the spec's own decision (D2). -/
def Obligations.StrobePinsDecodeToResetOrTick : Prop :=
  decode (.strobe 0b10) = .ok .reset ∧ decode (.strobe 0b11) = .ok .reset ∧
    decode (.strobe 0b01) = .ok .tick ∧ decode (.strobe 0b00) = .error .idleStrobe

/-- Decode and encode agree: an operation encoded by R70 to R77 decodes to itself, with every operand at every value. -/
def Obligations.DecodeOfEncodeIsTheInstruction : Prop :=
  ∀ i : Instr, i.wellFormed = true → decode (encode i) = .ok i

/-- The other direction: a port value that decodes to an operation is that operation's encoding but for the bits the spec
ignores, `arg[15:9]` of CONFIGURE (R80) and the pin `ovf` of RESET (R77). -/
def Obligations.EncodeOfDecodeClearsIgnoredBits : Prop :=
  (∀ (w : CommandWord) (i : Instr), decode (.command w) = .ok i →
    encode i = .command (if w.toNat / 65536 = 1 then w &&& 0xF01FF else w)) ∧
  (∀ (pins : StrobePins) (i : Instr), decode (.strobe pins) = .ok i →
    encode i = .strobe (if pins.getLsbD 1 then pins &&& 0b10 else pins))

/-- The decoder and spec/opcode_table.json agree: a port value has the fixed bits of a row of its format exactly when it
decodes to that row's operation. In particular no two rows overlap and no reserved word has a row. -/
def Obligations.DecodeAgreesWithOpcodeTable : Prop :=
  ∀ (p : PortWord) (r : OpcodeRow), r ∈ opcodeTable →
    (r.admits p = true ↔ ∃ i, decode p = .ok i ∧ mnemonicOf i = r.mnemonic)

/-- Words of R84 and of table E of spec/95_test_vectors.md, written out there, and what they stand for. -/
def Obligations.WorkedEncodingsDecode : Prop :=
  decode (.command 0x100FF) = .ok (.configure 255 .phaseCorrect) ∧
  decode (.command 0x101FF) = .ok (.configure 255 .fast) ∧
  decode (.command 0x1FE64) = .ok (.configure 100 .phaseCorrect) ∧
  decode (.command 0x20003) = .ok (.setChannelMode 3) ∧
  decode (.command 0x2FFFF) = .ok (.setChannelMode 65535) ∧
  decode (.command 0x33FC0) = .ok (.setRamp 16320) ∧
  decode (.command 0x39C40) = .ok (.setRamp 40000) ∧
  decode (.command 0x40080) = .ok (.setBlend 128) ∧
  decode (.command 0x40100) = .ok (.setBlend 256) ∧
  decode (.command 0x0FFFF) = .error (.reservedOpcode 0) ∧
  decode (.command 0x50000) = .error (.reservedOpcode 5) ∧
  decode (.command 0xF1234) = .error (.reservedOpcode 15)

/-- The bits of a table row, placed where the next edge is sampled, are run by the next step, which leaves the waiting
edges as they were. Where they are placed is the model's choice (log entries 1 and 7). -/
def Obligations.PlacedTableWordRunsNext : Prop :=
  ∀ (s : State) (nbits w : Nat) (i : Instr), decodeTableWord nbits w = some i →
    step (s.withFetchWord nbits w) = exec i s

/-- R82, R83: the events each assembler line stands for, for every operand that can be written. The line form is the spec's
own decision (D22). -/
def Obligations.AssemblerLinesPresentTheirEvents : Prop :=
  (lineEdges AsmLine.reset).flatMap edgeEvents = [.reset] ∧
  (lineEdges AsmLine.tick).flatMap edgeEvents = [.tick] ∧
  (∀ n, (lineEdges (AsmLine.ticks n)).flatMap edgeEvents = List.replicate n .tick) ∧
  (∀ (top : Duty) (cmode : CntMode),
    (lineEdges (AsmLine.configure top.toNat cmode)).flatMap edgeEvents = [.configure top cmode]) ∧
  (∀ m : ChanMode, ∃ code : Arg, code.toNat = (chanModeCode m).toNat ∧
    (lineEdges (AsmLine.setChannelMode (.name m))).flatMap edgeEvents = [.setChannelMode code]) ∧
  (∀ m : Arg, (lineEdges (AsmLine.setChannelMode (.number m.toNat))).flatMap edgeEvents = [.setChannelMode m]) ∧
  (∀ level : Arg, (lineEdges (AsmLine.setRamp level.toNat)).flatMap edgeEvents = [.setRamp level]) ∧
  (∀ ratio : Arg, (lineEdges (AsmLine.setBlend ratio.toNat)).flatMap edgeEvents = [.setBlend ratio]) ∧
  (∀ w : CommandWord, (lineEdges (AsmLine.word w.toNat)).flatMap edgeEvents = eventOf (decode (.command w)))

/-! ### The edge and the step -/

/-- One operation on an edge: the step is the operation's meaning, on the state with that edge consumed (R52, R58). That
the waiting edges stand in the state is the model's choice (log entry 1). -/
def Obligations.StepRunsTheDecodedOperation : Prop :=
  ∀ (s : State) (p : PortWord) (rest : List Edge) (i : Instr),
    s.inputs = Edge.ofPortWord p :: rest → decode p = .ok i → step s = exec i (s.withInputs rest)

/-- R63, R52: on an edge with a command and an overflow the command takes effect first and the tick runs on the new state;
the edge does what the two events do on two edges. The order is the spec's own decision (D16). -/
def Obligations.CommandTakesEffectBeforeTick : Prop :=
  ∀ (s : State) (w : CommandWord) (rest : List Edge) (i : Instr), decode (.command w) = .ok i →
    ∃ t u, exec i (s.withInputs rest) = .next t ∧ exec .tick t = .next u ∧
      step (s.withInputs ({ rst := false, cmdValid := true, cmdWord := w, ovf := true } :: rest)) = .next u ∧
      RunsTo 2 (s.withInputs (Edge.ofPortWord (.command w) :: tickEdge :: rest)) u

/-- R52, R77, R200: with `rst`, the edge is RESET alone, whatever the command and the overflow. That `rst` overrides the
other inputs is the spec's own decision (D2). -/
def Obligations.ResetOverridesTheOtherInputs : Prop :=
  ∀ (s : State) (e : Edge) (rest : List Edge), e.rst = true → s.inputs = e :: rest →
    step s = exec .reset (s.withInputs rest)

/-- R79: a word whose `op` is 0x0 or 0x5 to 0xF changes nothing; a tick of the same edge still happens. Ignoring such a word
is the spec's own decision (D7). -/
def Obligations.ReservedWordIsIgnored : Prop :=
  ∀ (s : State) (w : CommandWord) (overflow : Bool) (rest : List Edge),
    w.toNat / 65536 = 0 ∨ 5 ≤ w.toNat / 65536 →
    s.inputs = { rst := false, cmdValid := true, cmdWord := w, ovf := overflow } :: rest →
    step s = if overflow then exec .tick (s.withInputs rest) else .next (s.withInputs rest)

/-- R52, R62 (c): an edge with `rst`, `cmd_valid` and `ovf` all 0 is no event; it changes no register and no output, whatever
is on `cmd_word`. -/
def Obligations.IdleEdgeChangesNothing : Prop :=
  ∀ (s : State) (w : CommandWord) (rest : List Edge),
    s.inputs = { rst := false, cmdValid := false, cmdWord := w, ovf := false } :: rest →
    ∃ t, step s = .next t ∧ t = s.withInputs rest ∧ t.outputs = s.outputs

/-- The model's choice (log entry 1): with no edge waiting, the step is an idle edge. -/
def Obligations.StepWithNothingWaitingIsIdle : Prop :=
  ∀ s : State, s.inputs = [] → step s = .next s

/-- R170, R172: no run stops; every step of every run, whatever the ports carry, has a next state. -/
def Obligations.EveryRunGoesOn : Prop :=
  ∀ (n : Nat) (s : State), ∃ t, RunsTo n s t

/-! ### RESET and CONFIGURE -/

/-- R200: RESET writes every register, with the open parameters' values where the spec leaves them open, and two RESETs in
a row are the same as one. The values of `accumulator`, `duty_out`, `global_ramp` and `cfg_locked` are the spec's own decisions
(D14, D15); that the parameters and the waiting edges stay is the model's choice (log entries 1 and 2). -/
def Obligations.ResetWritesEveryRegister : Prop :=
  ∀ s : State, ∃ t, exec .reset s = .next t ∧
    (∀ c, (t.ch c).integerDuty = 0 ∧ (t.ch c).fraction = 0 ∧ (t.ch c).accumulator = 0 ∧
      (t.ch c).enabled = false ∧ (t.ch c).dutyOut = 0) ∧
    t.cntTop = 255 ∧ t.cntMode = s.params.resetCntMode ∧ t.cfgLocked = false ∧
    t.globalRamp = 0 ∧ t.chanMode = s.params.resetMode ∧ t.blend = 128 ∧
    s.SameSurroundings t ∧ exec .reset t = .next t

/-- R201 (derived there): the state of R200 meets every invariant, for every value of the open parameters. -/
def Obligations.ResetStateMeetsTheInvariant : Prop :=
  (∀ p : Config.Params, (State.resetWith p).Inv) ∧ State.reset.Inv

/-- R201 (derived there): a TICK on the reset state is legal and leaves it unchanged. -/
def Obligations.TickOnResetStateChangesNothing : Prop :=
  ∀ p : Config.Params, exec .tick (State.resetWith p) = .next (State.resetWith p)

/-- R90: while `cfg_locked` is false, CONFIGURE writes CounterConfig and the lock together, and nothing else. The lock is
the spec's own decision (D15). -/
def Obligations.FirstConfigureWritesAndLocks : Prop :=
  ∀ (top : Duty) (cmode : CntMode) (s : State), s.cfgLocked = false →
    exec (.configure top cmode) s = .next { s with cntTop := top, cntMode := cmode, cfgLocked := true }

/-- R90, R91: while `cfg_locked` is true, CONFIGURE changes nothing. Ignoring it is the spec's own decision (D15). -/
def Obligations.LaterConfigureIsIgnored : Prop :=
  ∀ (top : Duty) (cmode : CntMode) (s : State), s.cfgLocked = true → exec (.configure top cmode) s = .next s

/-- R91 over whole runs: once locked, CounterConfig keeps its values until the next RESET, whatever events arrive. The lock
is the spec's own decision (D15). -/
def Obligations.CounterConfigIsWriteOnce : Prop :=
  ∀ (n : Nat) (s t : State), s.cfgLocked = true → (∀ e ∈ s.inputs, e.rst = false) → RunsTo n s t →
    s.SameConfig t

/-- R93 over whole runs: nothing reads CounterConfig. Whatever its contents and the lock, the channels and the latched
inputs go the same way. That nothing reads them is the spec's own decision (D24). -/
def Obligations.CounterConfigReachesNothingElse : Prop :=
  ∀ (n : Nat) (s : State) (top : Duty) (cmode : CntMode) (locked : Bool),
    ∃ t u, RunsTo n s t ∧
      RunsTo n { s with cntTop := top, cntMode := cmode, cfgLocked := locked } u ∧
      u.ch1 = t.ch1 ∧ u.ch2 = t.ch2 ∧ t.SameLatches u ∧ t.SameSurroundings u

/-! ### The resolver's commands -/

/-- R150, R149, R121: SET_CHANNEL_MODE latches the mode whose code is min(m, 4) and installs the targets of R148 in both
channels. The clamp to code 4 is the spec's own decision (D5, D8). The targets are stated for levels in the range of R148. -/
def Obligations.SetChannelModeClampsAndPropagates : Prop :=
  ∀ (m : Arg) (s : State), ∃ t, exec (.setChannelMode m) s = .next t ∧
    (chanModeCode t.chanMode).toNat = min m.toNat 4 ∧
    t.globalRamp = s.globalRamp ∧ t.blend = s.blend ∧ s.SameConfig t ∧ s.SameSurroundings t ∧
    (s.globalRamp.toNat ≤ 32640 → s.Propagated t s.globalRamp.toNat t.chanMode s.blend.toNat)

/-- R151, R149, R121: SET_RAMP latches min(level, 32640) and installs the targets of R148 in both channels. The 16-bit
operand is the spec's own decision (D8). -/
def Obligations.SetRampClampsAndPropagates : Prop :=
  ∀ (level : Arg) (s : State), ∃ t, exec (.setRamp level) s = .next t ∧
    t.globalRamp.toNat = min level.toNat 32640 ∧
    t.chanMode = s.chanMode ∧ t.blend = s.blend ∧ s.SameConfig t ∧ s.SameSurroundings t ∧
    s.Propagated t (min level.toNat 32640) s.chanMode s.blend.toNat

/-- R152, R149, R121: SET_BLEND latches min(ratio, 255) and installs the targets of R148 in both channels. The 16-bit
operand is the spec's own decision (D8). The targets are stated for levels in the range of R148. -/
def Obligations.SetBlendClampsAndPropagates : Prop :=
  ∀ (ratio : Arg) (s : State), ∃ t, exec (.setBlend ratio) s = .next t ∧
    t.blend.toNat = min ratio.toNat 255 ∧
    t.globalRamp = s.globalRamp ∧ t.chanMode = s.chanMode ∧ s.SameConfig t ∧ s.SameSurroundings t ∧
    (s.globalRamp.toNat ≤ 32640 → s.Propagated t s.globalRamp.toNat s.chanMode (min ratio.toNat 255))

/-- R154, R129 (derived, and the decision D25): outside MANUAL_BLEND, SET_BLEND latches the ratio and changes in the channels
nothing but `duty_out`, which goes back to the integer duty. -/
def Obligations.BlendIsUnusedOutsideManualBlend : Prop :=
  ∀ (ratio : Arg) (s : State), s.Inv → s.chanMode ≠ .manualBlend →
    ∃ t, exec (.setBlend ratio) s = .next t ∧ t.blend.toNat = min ratio.toNat 255 ∧
      ∀ c, t.ch c = { s.ch c with dutyOut := (s.ch c).integerDuty }

/-- R154 (derived there): a ratio set in any mode takes effect when MANUAL_BLEND is later selected. -/
def Obligations.BlendSetEarlyTakesEffectLater : Prop :=
  ∀ (ratio : Arg) (s : State), s.globalRamp.toNat ≤ 32640 →
    ∃ t u, exec (.setBlend ratio) s = .next t ∧ exec (.setChannelMode 3) t = .next u ∧
      u.chanMode = .manualBlend ∧
      s.Propagated u s.globalRamp.toNat .manualBlend (min ratio.toNat 255)

/-! ### RESOLVE -/

/-- R140, R141, R142: the three policies that do not blend, whatever the ratio. -/
def Obligations.SingleAndTiedModesResolve : Prop :=
  ∀ (g : RampLevel) (b : BlendRatio), g.toNat ≤ 32640 →
    resolve g .ch1Only b = (g, 0) ∧ resolve g .ch2Only b = (0, g) ∧ resolve g .bothTied b = (g, g) ∧
    resolve 32640 .bothTied b = (32640, 32640)

/-- R143: channel 2 gets g*b/255 rounded to nearest (twice the distance is at most 255), channel 1 the rest, with the end
cases the document gives. The rounding is the spec's own decision (D12). -/
def Obligations.ManualBlendRoundsToNearest : Prop :=
  ∀ (g : RampLevel) (b : BlendRatio), g.toNat ≤ 32640 →
    (resolve g .manualBlend b).2.toNat = (b.toNat * g.toNat + 127) / 255 ∧
    (resolve g .manualBlend b).1.toNat + (resolve g .manualBlend b).2.toNat = g.toNat ∧
    2 * (255 * (resolve g .manualBlend b).2.toNat) < 2 * (b.toNat * g.toNat) + 255 ∧
    2 * (b.toNat * g.toNat) < 2 * (255 * (resolve g .manualBlend b).2.toNat) + 255 ∧
    resolve g .manualBlend 0 = (g, 0) ∧ resolve g .manualBlend 255 = (0, g)

/-- R144 (c) (derived there): channel 2's share does not decrease with the ratio or with the level. -/
def Obligations.BlendShareIsMonotone : Prop :=
  ∀ (g g' : RampLevel) (b b' : BlendRatio), g.toNat ≤ g'.toNat → g'.toNat ≤ 32640 → b.toNat ≤ b'.toNat →
    (resolve g .manualBlend b).2.toNat ≤ (resolve g' .manualBlend b').2.toNat

/-- R144 (d) (derived there): the mirrored ratio swaps the two channels. -/
def Obligations.BlendIsMirrorSymmetric : Prop :=
  ∀ (g : RampLevel) (b : BlendRatio), g.toNat ≤ 32640 →
    resolve g .manualBlend (255 - b) = ((resolve g .manualBlend b).2, (resolve g .manualBlend b).1)

/-- R145: AUTO_BLEND is MANUAL_BLEND at the ratio g div 128, which is the linear map of 0..32640 onto 0..255; the blend
register is not read. The map is the spec's own decision (D13). -/
def Obligations.AutoBlendIsLinearInTheLevel : Prop :=
  ∀ (g : RampLevel) (b : BlendRatio), g.toNat ≤ 32640 →
    (autoBlendRatio g).toNat = g.toNat / 128 ∧ (autoBlendRatio g).toNat = g.toNat * 255 / 32640 ∧
    resolve g .autoBlend b = resolve g .manualBlend (autoBlendRatio g) ∧
    (g.toNat = 0 → resolve g .autoBlend b = (0, 0)) ∧ (g.toNat = 32640 → resolve g .autoBlend b = (0, 32640))

/-- R146 (derived there): in AUTO_BLEND the cool target does not decrease with the level; the warm target is at most 8224, which
it reaches at level 16383, and drops by at most 128 from one level to the next. -/
def Obligations.AutoBlendSweepShape : Prop :=
  (∀ (g g' : RampLevel) (b : BlendRatio), g.toNat ≤ g'.toNat → g'.toNat ≤ 32640 →
    (resolve g .autoBlend b).2.toNat ≤ (resolve g' .autoBlend b).2.toNat) ∧
  (∀ (g : RampLevel) (b : BlendRatio), g.toNat ≤ 32640 → (resolve g .autoBlend b).1.toNat ≤ 8224) ∧
  (∀ b : BlendRatio, (resolve 16383 .autoBlend b).1.toNat = 8224) ∧
  (∀ (g g' : RampLevel) (b : BlendRatio), g'.toNat = g.toNat + 1 → g'.toNat ≤ 32640 →
    (resolve g .autoBlend b).1.toNat ≤ (resolve g' .autoBlend b).1.toNat + 128)

/-- R153, R41 (derived there): what the two targets sum to in each mode, within the mode's cap. -/
def Obligations.TargetsSumByMode : Prop :=
  ∀ (g : RampLevel) (m : ChanMode) (b : BlendRatio), g.toNat ≤ 32640 →
    (resolve g m b).1.toNat + (resolve g m b).2.toNat = (if m = .bothTied then 2 * g.toNat else g.toNat) ∧
    (resolve g m b).1.toNat + (resolve g m b).2.toNat ≤ powerCap m ∧
    (resolve g m b).1.toNat ≤ 32640 ∧ (resolve g m b).2.toNat ≤ 32640

/-- R155: the document's concrete cases, and, in AUTO_BLEND, a sweep up and back drives the same targets in reverse,
whatever the levels and from whatever states in that mode the two sweeps start. -/
def Obligations.ResolverCasesAndReversibility : Prop :=
  (∀ b : BlendRatio, resolve 16320 .bothTied b = (16320, 16320) ∧ resolve 16320 .ch1Only b = (16320, 0)) ∧
  (∀ g : RampLevel, g.toNat ≤ 32640 →
    resolve g .manualBlend 0 = (g, 0) ∧ resolve g .manualBlend 255 = (0, g)) ∧
  (∀ (levels : List Arg) (s u : State), s.chanMode = .autoBlend → u.chanMode = .autoBlend →
    State.rampPath levels.reverse u = (State.rampPath levels s).reverse ∧
    (State.rampPath levels s).length = levels.length)

/-! ### SET_TARGET -/

/-- R120, R121, R125: SET_TARGET(c, ramp) splits the clamped target, sets the enable and makes the first duty write together;
it keeps the accumulator, the other channel and every shared register. That the first duty write is the new integer duty
(R123) is the spec's own decision (D11); that the accumulator is kept (R124) is derived there. -/
def Obligations.SetTargetSplitsEnablesAndWritesDuty : Prop :=
  ∀ (s : State) (c : ChannelId) (ramp : RampLevel),
    (s.ch c).TargetInstalled ((s.setTarget c ramp).ch c) ramp.toNat ∧
    (∀ d, d ≠ c → (s.setTarget c ramp).ch d = s.ch d) ∧
    s.SameConfig (s.setTarget c ramp) ∧ s.SameLatches (s.setTarget c ramp) ∧
    s.SameSurroundings (s.setTarget c ramp)

/-- R14, R127: a ramp level and its two parts determine each other; through SET_TARGET the pair comes back for targets up to
32640, and is (255, 0) above. -/
def Obligations.RampLevelRoundTrips : Prop :=
  (∀ r : RampLevel, (intPart r).toNat = r.toNat / 128 ∧ (fracPart r).toNat = r.toNat % 128 ∧
    (intPart r).toNat * 128 + (fracPart r).toNat = r.toNat) ∧
  (∀ (i : Duty) (f : Frac), (rampOf i f).toNat = i.toNat * 128 + f.toNat ∧
    intPart (rampOf i f) = i ∧ fracPart (rampOf i f) = f) ∧
  (∀ (s : State) (c : ChannelId) (i : Duty) (f : Frac),
    (i.toNat * 128 + f.toNat ≤ 32640 →
      ((s.setTarget c (rampOf i f)).ch c).integerDuty = i ∧ ((s.setTarget c (rampOf i f)).ch c).fraction = f) ∧
    (32640 < i.toNat * 128 + f.toNat →
      ((s.setTarget c (rampOf i f)).ch c).integerDuty = 255 ∧ ((s.setTarget c (rampOf i f)).ch c).fraction = 0))

/-- R128 (derived there): after every SET_* command, in every mode and from every state, each channel is enabled exactly when
its target is nonzero. -/
def Obligations.EnabledFollowsTargetAfterEveryCommand : Prop :=
  ∀ (i : Instr) (s : State),
    (∃ m, i = .setChannelMode m) ∨ (∃ level, i = .setRamp level) ∨ (∃ ratio, i = .setBlend ratio) →
    ∃ t, exec i s = .next t ∧ ∀ c, ((t.ch c).enabled = true ↔ 0 < (t.ch c).ramp)

/-! ### The modulator -/

/-- R100, R101: TICK is one DSM step of each channel and changes nothing else. This is the block without the optional gate
(`DSM_GATE` = false). That a carry at integer duty 255, which no run reaches, writes 255 and does not stop the block (R102) is
the spec's own decision (D10), where it would let a model fault (log entry 10). -/
def Obligations.TickStepsEachChannel : Prop :=
  ∀ s : State, s.params.dsmGate = false → ∃ t, exec .tick s = .next t ∧
    (∀ c, (s.ch c).Stepped (t.ch c)) ∧
    s.SameConfig t ∧ s.SameLatches t ∧ s.SameSurroundings t

/-- R108 (derived there): with `DSM_GATE` = true, TICK steps the channels whose fraction is not 0 and leaves the others as they
are. -/
def Obligations.GatedTickStepsArmedChannels : Prop :=
  ∀ s : State, s.params.dsmGate = true → ∃ t, exec .tick s = .next t ∧
    (∀ c, ((s.ch c).fraction = 0 → t.ch c = s.ch c) ∧ ((s.ch c).fraction ≠ 0 → (s.ch c).Stepped (t.ch c))) ∧
    s.SameConfig t ∧ s.SameLatches t ∧ s.SameSurroundings t

/-- R108 over whole runs (derived there): from a state that meets the invariant, a block with the gate and one without go
through the same states. -/
def Obligations.ZeroFractionGateIsUnobservable : Prop :=
  ∀ (n : Nat) (s : State), s.Inv →
    ∃ t u, RunsTo n { s with params := { s.params with dsmGate := true } } t ∧
      RunsTo n { s with params := { s.params with dsmGate := false } } u ∧
      { t with params := { t.params with dsmGate := false } } = u

/-- R104: the step's sum at 8 bits does not wrap; its bit 7 is the carry, its bits [6:0] the new accumulator; the increment
is formed at 9 bits and saturated to 8. The saturation, 255 where the increment reaches 256 (R102), is the spec's own decision
(D10), where it would let a model fault (log entry 10). -/
def Obligations.DsmStepIsEightBitAddition : Prop :=
  ∀ x : Channel,
    let sum : BitVec 8 := x.accumulator.setWidth 8 + x.fraction.setWidth 8
    let next : BitVec 9 := x.integerDuty.setWidth 9 + 1
    sum.toNat = x.accumulator.toNat + x.fraction.toNat ∧ next.toNat = x.integerDuty.toNat + 1 ∧
    (sum.getLsbD 7 = true ↔ 128 ≤ sum.toNat) ∧
    x.dsmStep.accumulator = sum.extractLsb' 0 7 ∧
    x.dsmStep.dutyOut =
      if sum.getLsbD 7 then (if next.getLsbD 8 then 255 else next.setWidth 8) else x.integerDuty

/-- R107 (derived there): in a channel that meets the invariant, TICK leaves the integer duty or one more in the duty
register, and one more is at most 255 whenever the step carries. -/
def Obligations.TickDutyStaysNextToTarget : Prop :=
  ∀ (s : State) (c : ChannelId), (s.ch c).Inv → ∃ t, exec .tick s = .next t ∧
    ((t.ch c).dutyOut.toNat = (s.ch c).integerDuty.toNat ∨
      (t.ch c).dutyOut.toNat = (s.ch c).integerDuty.toNat + 1) ∧
    (128 ≤ (s.ch c).accumulator.toNat + (s.ch c).fraction.toNat → (s.ch c).integerDuty.toNat + 1 ≤ 255)

/-- `n` edges with only `ovf` are `n` TICKs: they end in the state the statements on ticks speak of (R52, R100). -/
def Obligations.OverflowEdgesRunAsTicks : Prop :=
  ∀ (n : Nat) (s : State) (rest : List Edge),
    RunsTo n (s.withInputs (List.replicate n tickEdge ++ rest)) ((s.ticked n).withInputs rest)

/-- R112 (derived there): the accumulator after n ticks, how many of them write the duty plus one, and which. -/
def Obligations.TicksHaveClosedForm : Prop :=
  ∀ (s : State) (c : ChannelId) (n : Nat),
    ((s.ticked n).ch c).accumulator.toNat =
      ((s.ch c).accumulator.toNat + n * (s.ch c).fraction.toNat) % 128 ∧
    ((s.ch c).Inv →
      s.dutyCount c ((s.ch c).integerDuty.toNat + 1) n =
        ((s.ch c).accumulator.toNat + n * (s.ch c).fraction.toNat) / 128 ∧
      s.dutyAfterTick c n = (s.ch c).integerDuty.toNat +
        if 128 ≤ ((s.ch c).accumulator.toNat + n * (s.ch c).fraction.toNat) % 128 + (s.ch c).fraction.toNat
        then 1 else 0)

/-- R105 (derived there): of 128 ticks, exactly `fraction` write the duty plus one and the others the duty, from every
accumulator. On the integer duty 255 with a fraction, which no run reaches, all 128 write 255: there the saturation (R102) is
the spec's own decision (D10), where it would let a model fault (log entry 10). -/
def Obligations.DutyPlusOneIsWrittenFractionTimes : Prop :=
  ∀ (s : State) (c : ChannelId),
    ((s.ch c).Inv →
      s.dutyCount c ((s.ch c).integerDuty.toNat + 1) 128 = (s.ch c).fraction.toNat ∧
      s.dutyCount c (s.ch c).integerDuty.toNat 128 = 128 - (s.ch c).fraction.toNat) ∧
    ((s.ch c).integerDuty = 255 → (s.ch c).fraction ≠ 0 → s.dutyCount c 255 128 = 128)

/-- R106 (derived there): after 128 ticks the accumulator is back at its start; the duty writes repeat after
128 / gcd(fraction, 128) ticks, and, where the fraction is not 0, every period is a multiple of that. -/
def Obligations.DutyPatternIsPeriodic : Prop :=
  ∀ (s : State) (c : ChannelId),
    ((s.ticked 128).ch c).accumulator = (s.ch c).accumulator ∧
    (∀ k, s.dutyAfterTick c (k + 128 / Nat.gcd (s.ch c).fraction.toNat 128) = s.dutyAfterTick c k) ∧
    ((s.ch c).Inv → (s.ch c).fraction ≠ 0 →
      ∀ p, 0 < p → (∀ k, s.dutyAfterTick c (k + p) = s.dutyAfterTick c k) →
        128 / Nat.gcd (s.ch c).fraction.toNat 128 ∣ p)

/-- R109, and the introduction of spec/INDEX.md (derived there): over any n ticks the written duties' sum differs from n times
the 15-bit target over 128 by less than one; over 128 ticks it is the target exactly. -/
def Obligations.WrittenDutiesAverageToTheTarget : Prop :=
  ∀ (s : State) (c : ChannelId), (s.ch c).Inv →
    (∀ n : Nat, 128 * s.dutySum c n < n * (s.ch c).ramp + 128 ∧ n * (s.ch c).ramp < 128 * s.dutySum c n + 128) ∧
    s.dutySum c 128 = (s.ch c).ramp

/-! ### Rules of the whole machine -/

/-- The 'written by' column of spec/10_state.md section 1, and R202 (derived there): each register changes only by the
operations named for it. -/
def Obligations.RegistersChangeOnlyByTheirOperations : Prop :=
  ∀ (i : Instr) (s t : State), exec i s = .next t →
    (∀ c, (t.ch c).accumulator ≠ (s.ch c).accumulator → i = .tick ∨ i = .reset) ∧
    (∀ c, (t.ch c).integerDuty ≠ (s.ch c).integerDuty ∨ (t.ch c).fraction ≠ (s.ch c).fraction ∨
        (t.ch c).enabled ≠ (s.ch c).enabled →
      (∃ m, i = .setChannelMode m) ∨ (∃ l, i = .setRamp l) ∨ (∃ r, i = .setBlend r) ∨ i = .reset) ∧
    (∀ c, (t.ch c).dutyOut ≠ (s.ch c).dutyOut → ∀ top cmode, i ≠ .configure top cmode) ∧
    (t.cntTop ≠ s.cntTop ∨ t.cntMode ≠ s.cntMode ∨ t.cfgLocked ≠ s.cfgLocked →
      (s.cfgLocked = false ∧ ∃ top cmode, i = .configure top cmode) ∨ i = .reset) ∧
    (t.globalRamp ≠ s.globalRamp → (∃ l, i = .setRamp l) ∨ i = .reset) ∧
    (t.chanMode ≠ s.chanMode → (∃ m, i = .setChannelMode m) ∨ i = .reset) ∧
    (t.blend ≠ s.blend → (∃ r, i = .setBlend r) ∨ i = .reset) ∧
    s.SameSurroundings t

/-- R20: no operation lets one channel's registers reach the other channel or the shared registers: with other contents in
channel `c`, an operation gives the same state but for channel `c`. -/
def Obligations.ChannelsDoNotReachEachOther : Prop :=
  ∀ (i : Instr) (s : State) (c : ChannelId) (x : Channel),
    ∃ t u, exec i s = .next t ∧ exec i (s.setCh c x) = .next u ∧ u.setCh c (t.ch c) = t

/-- R157: a TICK reads none of the resolver's inputs. -/
def Obligations.TickIgnoresTheResolverInputs : Prop :=
  ∀ (s : State) (g : RampLevel) (m : ChanMode) (b : BlendRatio), ∃ t, exec .tick s = .next t ∧
    exec .tick { s with globalRamp := g, chanMode := m, blend := b } =
      .next { t with globalRamp := g, chanMode := m, blend := b }

/-- R36, R38 to R41 (derived there): every step keeps the invariant, from every state that meets it, reached or not. -/
def Obligations.StepKeepsTheInvariant : Prop :=
  ∀ s t : State, s.Inv → step s = .next t → t.Inv

/-- R36 to R41 (derived there): every state reached from RESET, under every value of the open parameters and every sequence of
edges, meets the invariant: the reset state meets it and every step keeps it, so every run does. -/
def Obligations.ReachableStatesMeetTheInvariant : Prop :=
  ∀ t : State, Reachable t → t.Inv

/-- R214, R39: where the invariant holds, a channel's stage is supplied exactly when its target is nonzero, and with the stage
off the duty is 0 and the overflow path is not armed. -/
def Obligations.UnsuppliedChannelHasZeroDuty : Prop :=
  ∀ s : State, s.Inv →
    (s.outputs.ch1.en = true ↔ 0 < s.ch1.ramp) ∧ (s.outputs.ch2.en = true ↔ 0 < s.ch2.ramp) ∧
    (s.outputs.ch1.en = false → s.outputs.ch1.duty = 0 ∧ s.outputs.ch1.armed = false) ∧
    (s.outputs.ch2.en = false → s.outputs.ch2.duty = 0 ∧ s.outputs.ch2.armed = false)

/-- R206 (derived there): while the level is 0 and no valid command asks for another, both channels stay dark, whatever modes,
ratios and configurations are set and however many ticks and resets arrive. -/
def Obligations.LightStaysOffUntilTheRampIsRaised : Prop :=
  ∀ (n : Nat) (s t : State), s.Inv → s.globalRamp = 0 →
    (∀ e ∈ s.inputs, ∀ level, e.cmdValid = true → decode (.command e.cmdWord) = .ok (.setRamp level) → level = 0) →
    RunsTo n s t → ∀ c, (t.ch c).enabled = false ∧ (t.ch c).dutyOut = 0

end Statements
end

