-- ==== Sys2Proof/Laws/Decode.lean ====
section
/-! SUPPORT. The fields of a command word, read and written. -/

namespace Sys2Proof

theorem opField_toNat (w : CommandWord) : (opField w).toNat = w.toNat / 65536 := by
  have := w.isLt
  simp only [opField, BitVec.extractLsb'_toNat, Nat.shiftRight_eq_div_pow]
  omega

theorem argField_toNat (w : CommandWord) : (argField w).toNat = w.toNat % 65536 := by
  simp [argField]

theorem commandWord_toNat (op : Opcode) (arg : Arg) :
    (commandWord op arg).toNat = op.toNat * 65536 + arg.toNat := by
  have := arg.isLt
  simp only [commandWord, BitVec.toNat_append, Nat.shiftLeft_eq]
  rw [Nat.mul_comm, ← Nat.two_pow_add_eq_or_of_lt (by omega)]

@[simp] theorem opField_commandWord (op : Opcode) (arg : Arg) : opField (commandWord op arg) = op := by
  have := arg.isLt
  apply BitVec.eq_of_toNat_eq
  rw [opField_toNat, commandWord_toNat]
  omega

@[simp] theorem argField_commandWord (op : Opcode) (arg : Arg) : argField (commandWord op arg) = arg := by
  have := arg.isLt
  apply BitVec.eq_of_toNat_eq
  rw [argField_toNat, commandWord_toNat]
  omega

theorem configureArg_toNat (top : Duty) (cmode : CntMode) :
    (configureArg top cmode).toNat = (cntModeBit cmode).toNat * 256 + top.toNat := by
  have := top.isLt
  simp only [configureArg, BitVec.toNat_append, Nat.shiftLeft_eq, BitVec.toNat_ofBool]
  rw [Nat.mul_comm (cntModeBit cmode).toNat, ← Nat.two_pow_add_eq_or_of_lt (by omega)]
  simp only [BitVec.ofNat_eq_ofNat, BitVec.toNat_ofNat, Nat.zero_mod, Nat.zero_mul, Nat.zero_or]

/-- The fixed bits of a command word are its selector. -/
theorem commandWord_and_mask (op : Opcode) (arg : Arg) :
    commandWord op arg &&& 0xF0000 = commandWord op 0 := by
  have h : (0xF0000 : CommandWord) = (0xF : BitVec 4) ++ (0 : BitVec 16) := by decide
  rw [commandWord, h, BitVec.and_append]
  rw [show (0xF : BitVec 4) = BitVec.allOnes 4 by decide, BitVec.and_allOnes]
  simp [commandWord]

end Sys2Proof
end

