-- ==== Sys2Proof/Laws/Operands.lean ====
section
/-! SUPPORT. What the operand functions compute, in naturals: one lemma per function. -/

namespace Sys2Proof.Machine

theorem clampRamp_toNat (v : Nat) : (clampRamp v).toNat = min v 32640 := by
  simp only [clampRamp, Config.rampMax, BitVec.toNat_ofNat]
  omega

theorem clampBlend_toNat (v : Nat) : (clampBlend v).toNat = min v 255 := by
  simp only [clampBlend, Config.blendMax, BitVec.toNat_ofNat]
  omega

theorem clampMode_code (v : Nat) : (chanModeCode (clampMode v)).toNat = min v 4 := by
  have : min v 4 ≤ 4 := Nat.min_le_right _ _
  unfold clampMode Config.modeMax
  generalize min v 4 = k at *
  interval_cases k <;> rfl

theorem intPart_toNat (r : RampLevel) : (intPart r).toNat = r.toNat / 128 := by
  have := r.isLt
  simp only [intPart, BitVec.extractLsb'_toNat, Nat.shiftRight_eq_div_pow]
  omega

theorem fracPart_toNat (r : RampLevel) : (fracPart r).toNat = r.toNat % 128 := by
  simp [fracPart]

theorem rampOf_toNat (i : Duty) (f : Frac) : (rampOf i f).toNat = i.toNat * 128 + f.toNat := by
  have := f.isLt
  simp only [rampOf, BitVec.toNat_append, Nat.shiftLeft_eq]
  rw [Nat.mul_comm, ← Nat.two_pow_add_eq_or_of_lt (by omega)]

theorem autoBlendRatio_toNat (g : RampLevel) : (autoBlendRatio g).toNat = g.toNat / 128 := intPart_toNat g

/-- Channel 2's share never exceeds the level (R144 b): the subtraction of R143 does not underflow. -/
theorem blendShare_le (g b : Nat) (h : b ≤ 255) : (b * g + 127) / 255 ≤ g := by
  have : b * g ≤ 255 * g := Nat.mul_le_mul_right g h
  omega

theorem blend2_toNat (g : RampLevel) (b : BlendRatio) :
    (blend2 g b).1.toNat = g.toNat - (b.toNat * g.toNat + 127) / 255 ∧
      (blend2 g b).2.toNat = (b.toNat * g.toNat + 127) / 255 := by
  have hb := b.isLt
  have hg := g.isLt
  have h := blendShare_le g.toNat b.toNat (by omega)
  simp only [blend2, BitVec.toNat_ofNat]
  omega

end Sys2Proof.Machine
end

