-- ==== Sys2Proof/Laws/State.lean ====
section
/-! SUPPORT. One lemma per field per update of the state, so that no proof unfolds a record update. -/

namespace Sys2Proof.Machine

variable (s : State)

/-! ### `ch` -/

@[simp] theorem State.ch_one : s.ch .one = s.ch1 := rfl
@[simp] theorem State.ch_two : s.ch .two = s.ch2 := rfl

/-! ### `setCh` -/

@[simp] theorem State.ch_setCh (c d : ChannelId) (x : Channel) :
    (s.setCh c x).ch d = if d = c then x else s.ch d := by
  cases c <;> cases d <;> rfl
@[simp] theorem State.ch1_setCh_one (x : Channel) : (s.setCh .one x).ch1 = x := rfl
@[simp] theorem State.ch2_setCh_one (x : Channel) : (s.setCh .one x).ch2 = s.ch2 := rfl
@[simp] theorem State.ch1_setCh_two (x : Channel) : (s.setCh .two x).ch1 = s.ch1 := rfl
@[simp] theorem State.ch2_setCh_two (x : Channel) : (s.setCh .two x).ch2 = x := rfl
@[simp] theorem State.cntTop_setCh (c : ChannelId) (x : Channel) : (s.setCh c x).cntTop = s.cntTop := by cases c <;> rfl
@[simp] theorem State.cntMode_setCh (c : ChannelId) (x : Channel) : (s.setCh c x).cntMode = s.cntMode := by cases c <;> rfl
@[simp] theorem State.cfgLocked_setCh (c : ChannelId) (x : Channel) : (s.setCh c x).cfgLocked = s.cfgLocked := by cases c <;> rfl
@[simp] theorem State.globalRamp_setCh (c : ChannelId) (x : Channel) : (s.setCh c x).globalRamp = s.globalRamp := by cases c <;> rfl
@[simp] theorem State.chanMode_setCh (c : ChannelId) (x : Channel) : (s.setCh c x).chanMode = s.chanMode := by cases c <;> rfl
@[simp] theorem State.blend_setCh (c : ChannelId) (x : Channel) : (s.setCh c x).blend = s.blend := by cases c <;> rfl
@[simp] theorem State.inputs_setCh (c : ChannelId) (x : Channel) : (s.setCh c x).inputs = s.inputs := by cases c <;> rfl
@[simp] theorem State.params_setCh (c : ChannelId) (x : Channel) : (s.setCh c x).params = s.params := by cases c <;> rfl

/-! ### `lockConfig` -/

@[simp] theorem State.ch1_lockConfig (top : Duty) (cmode : CntMode) : (s.lockConfig top cmode).ch1 = s.ch1 := rfl
@[simp] theorem State.ch2_lockConfig (top : Duty) (cmode : CntMode) : (s.lockConfig top cmode).ch2 = s.ch2 := rfl
@[simp] theorem State.cntTop_lockConfig (top : Duty) (cmode : CntMode) : (s.lockConfig top cmode).cntTop = top := rfl
@[simp] theorem State.cntMode_lockConfig (top : Duty) (cmode : CntMode) : (s.lockConfig top cmode).cntMode = cmode := rfl
@[simp] theorem State.cfgLocked_lockConfig (top : Duty) (cmode : CntMode) : (s.lockConfig top cmode).cfgLocked = true := rfl
@[simp] theorem State.globalRamp_lockConfig (top : Duty) (cmode : CntMode) : (s.lockConfig top cmode).globalRamp = s.globalRamp := rfl
@[simp] theorem State.chanMode_lockConfig (top : Duty) (cmode : CntMode) : (s.lockConfig top cmode).chanMode = s.chanMode := rfl
@[simp] theorem State.blend_lockConfig (top : Duty) (cmode : CntMode) : (s.lockConfig top cmode).blend = s.blend := rfl
@[simp] theorem State.inputs_lockConfig (top : Duty) (cmode : CntMode) : (s.lockConfig top cmode).inputs = s.inputs := rfl
@[simp] theorem State.params_lockConfig (top : Duty) (cmode : CntMode) : (s.lockConfig top cmode).params = s.params := rfl
@[simp] theorem State.ch_lockConfig (top : Duty) (cmode : CntMode) (c : ChannelId) : (s.lockConfig top cmode).ch c = s.ch c := by cases c <;> rfl

/-! ### `latchRamp` -/

@[simp] theorem State.ch1_latchRamp (g : RampLevel) : (s.latchRamp g).ch1 = s.ch1 := rfl
@[simp] theorem State.ch2_latchRamp (g : RampLevel) : (s.latchRamp g).ch2 = s.ch2 := rfl
@[simp] theorem State.cntTop_latchRamp (g : RampLevel) : (s.latchRamp g).cntTop = s.cntTop := rfl
@[simp] theorem State.cntMode_latchRamp (g : RampLevel) : (s.latchRamp g).cntMode = s.cntMode := rfl
@[simp] theorem State.cfgLocked_latchRamp (g : RampLevel) : (s.latchRamp g).cfgLocked = s.cfgLocked := rfl
@[simp] theorem State.globalRamp_latchRamp (g : RampLevel) : (s.latchRamp g).globalRamp = g := rfl
@[simp] theorem State.chanMode_latchRamp (g : RampLevel) : (s.latchRamp g).chanMode = s.chanMode := rfl
@[simp] theorem State.blend_latchRamp (g : RampLevel) : (s.latchRamp g).blend = s.blend := rfl
@[simp] theorem State.inputs_latchRamp (g : RampLevel) : (s.latchRamp g).inputs = s.inputs := rfl
@[simp] theorem State.params_latchRamp (g : RampLevel) : (s.latchRamp g).params = s.params := rfl
@[simp] theorem State.ch_latchRamp (g : RampLevel) (c : ChannelId) : (s.latchRamp g).ch c = s.ch c := by cases c <;> rfl

/-! ### `latchMode` -/

@[simp] theorem State.ch1_latchMode (m : ChanMode) : (s.latchMode m).ch1 = s.ch1 := rfl
@[simp] theorem State.ch2_latchMode (m : ChanMode) : (s.latchMode m).ch2 = s.ch2 := rfl
@[simp] theorem State.cntTop_latchMode (m : ChanMode) : (s.latchMode m).cntTop = s.cntTop := rfl
@[simp] theorem State.cntMode_latchMode (m : ChanMode) : (s.latchMode m).cntMode = s.cntMode := rfl
@[simp] theorem State.cfgLocked_latchMode (m : ChanMode) : (s.latchMode m).cfgLocked = s.cfgLocked := rfl
@[simp] theorem State.globalRamp_latchMode (m : ChanMode) : (s.latchMode m).globalRamp = s.globalRamp := rfl
@[simp] theorem State.chanMode_latchMode (m : ChanMode) : (s.latchMode m).chanMode = m := rfl
@[simp] theorem State.blend_latchMode (m : ChanMode) : (s.latchMode m).blend = s.blend := rfl
@[simp] theorem State.inputs_latchMode (m : ChanMode) : (s.latchMode m).inputs = s.inputs := rfl
@[simp] theorem State.params_latchMode (m : ChanMode) : (s.latchMode m).params = s.params := rfl
@[simp] theorem State.ch_latchMode (m : ChanMode) (c : ChannelId) : (s.latchMode m).ch c = s.ch c := by cases c <;> rfl

/-! ### `latchBlend` -/

@[simp] theorem State.ch1_latchBlend (b : BlendRatio) : (s.latchBlend b).ch1 = s.ch1 := rfl
@[simp] theorem State.ch2_latchBlend (b : BlendRatio) : (s.latchBlend b).ch2 = s.ch2 := rfl
@[simp] theorem State.cntTop_latchBlend (b : BlendRatio) : (s.latchBlend b).cntTop = s.cntTop := rfl
@[simp] theorem State.cntMode_latchBlend (b : BlendRatio) : (s.latchBlend b).cntMode = s.cntMode := rfl
@[simp] theorem State.cfgLocked_latchBlend (b : BlendRatio) : (s.latchBlend b).cfgLocked = s.cfgLocked := rfl
@[simp] theorem State.globalRamp_latchBlend (b : BlendRatio) : (s.latchBlend b).globalRamp = s.globalRamp := rfl
@[simp] theorem State.chanMode_latchBlend (b : BlendRatio) : (s.latchBlend b).chanMode = s.chanMode := rfl
@[simp] theorem State.blend_latchBlend (b : BlendRatio) : (s.latchBlend b).blend = b := rfl
@[simp] theorem State.inputs_latchBlend (b : BlendRatio) : (s.latchBlend b).inputs = s.inputs := rfl
@[simp] theorem State.params_latchBlend (b : BlendRatio) : (s.latchBlend b).params = s.params := rfl
@[simp] theorem State.ch_latchBlend (b : BlendRatio) (c : ChannelId) : (s.latchBlend b).ch c = s.ch c := by cases c <;> rfl

/-! ### `withInputs` -/

@[simp] theorem State.ch1_withInputs (es : List Edge) : (s.withInputs es).ch1 = s.ch1 := rfl
@[simp] theorem State.ch2_withInputs (es : List Edge) : (s.withInputs es).ch2 = s.ch2 := rfl
@[simp] theorem State.cntTop_withInputs (es : List Edge) : (s.withInputs es).cntTop = s.cntTop := rfl
@[simp] theorem State.cntMode_withInputs (es : List Edge) : (s.withInputs es).cntMode = s.cntMode := rfl
@[simp] theorem State.cfgLocked_withInputs (es : List Edge) : (s.withInputs es).cfgLocked = s.cfgLocked := rfl
@[simp] theorem State.globalRamp_withInputs (es : List Edge) : (s.withInputs es).globalRamp = s.globalRamp := rfl
@[simp] theorem State.chanMode_withInputs (es : List Edge) : (s.withInputs es).chanMode = s.chanMode := rfl
@[simp] theorem State.blend_withInputs (es : List Edge) : (s.withInputs es).blend = s.blend := rfl
@[simp] theorem State.inputs_withInputs (es : List Edge) : (s.withInputs es).inputs = es := rfl
@[simp] theorem State.params_withInputs (es : List Edge) : (s.withInputs es).params = s.params := rfl
@[simp] theorem State.ch_withInputs (es : List Edge) (c : ChannelId) : (s.withInputs es).ch c = s.ch c := by cases c <;> rfl

@[simp] theorem State.withInputs_withInputs (es fs : List Edge) :
    (s.withInputs es).withInputs fs = s.withInputs fs := rfl
@[simp] theorem State.withInputs_self : s.withInputs s.inputs = s := rfl

/-! ### `resetWith` -/

@[simp] theorem State.resetWith_ch (p : Config.Params) (c : ChannelId) :
    (State.resetWith p).ch c = Channel.reset := by
  cases c <;> rfl
@[simp] theorem State.resetWith_params (p : Config.Params) : (State.resetWith p).params = p := rfl
@[simp] theorem State.resetWith_inputs (p : Config.Params) : (State.resetWith p).inputs = [] := rfl

end Sys2Proof.Machine
end

