-- ==== Sys2Proof/Laws/Ops.lean ====
section
/-! SUPPORT. What each shared operation can do, said once. -/

namespace Sys2Proof.Machine

/-! ### RESOLVE -/

/-- RESOLVE is R148's function on naturals. -/
theorem resolve_toNat (g : RampLevel) (m : ChanMode) (b : BlendRatio) :
    ((resolve g m b).1.toNat, (resolve g m b).2.toNat) = targetsOf g.toNat m b.toNat := by
  cases m
  case manualBlend => simp [resolve, targetsOf, (blend2_toNat g b).1, (blend2_toNat g b).2]
  case autoBlend =>
    simp [resolve, targetsOf, (blend2_toNat g _).1, (blend2_toNat g _).2, autoBlendRatio_toNat]
  all_goals rfl

theorem resolve_fst_toNat (g : RampLevel) (m : ChanMode) (b : BlendRatio) :
    (resolve g m b).1.toNat = (targetsOf g.toNat m b.toNat).1 := by
  rw [← resolve_toNat]

theorem resolve_snd_toNat (g : RampLevel) (m : ChanMode) (b : BlendRatio) :
    (resolve g m b).2.toNat = (targetsOf g.toNat m b.toNat).2 := by
  rw [← resolve_toNat]

/-- Neither target exceeds the level (R147). -/
theorem resolve_le (g : RampLevel) (m : ChanMode) (b : BlendRatio) :
    (resolve g m b).1.toNat ≤ g.toNat ∧ (resolve g m b).2.toNat ≤ g.toNat := by
  have hb : b.toNat ≤ 255 := by have := b.isLt; omega
  have ha : (autoBlendRatio g).toNat ≤ 255 := by have := (autoBlendRatio g).isLt; omega
  have h1 := blendShare_le g.toNat b.toNat hb
  have h2 := blendShare_le g.toNat _ ha
  cases m
  case manualBlend => simp only [resolve, (blend2_toNat g b).1, (blend2_toNat g b).2]; omega
  case autoBlend => simp only [resolve, (blend2_toNat g _).1, (blend2_toNat g _).2]; omega
  all_goals simp [resolve]

/-! ### SET_TARGET -/

@[simp] theorem Channel.accumulator_setTarget (x : Channel) (r : RampLevel) :
    (x.setTarget r).accumulator = x.accumulator := rfl

theorem Channel.ramp_setTarget (x : Channel) (r : RampLevel) :
    (x.setTarget r).ramp = min r.toNat 32640 := by
  simp only [Channel.ramp, Channel.setTarget, intPart_toNat, fracPart_toNat, clampRamp_toNat, Config.fracMod]
  omega

/-- Whatever the target, SET_TARGET leaves a channel that meets R36, R38 and R39. -/
theorem Channel.inv_setTarget (x : Channel) (r : RampLevel) : (x.setTarget r).Inv where
  duty := ⟨.inl rfl, fun _ => rfl⟩
  range := by
    rw [Channel.TargetInRange, Channel.ramp_setTarget, Config.rampMax]
    omega
  gating := by
    rw [Channel.EnabledIffLit, Channel.ramp_setTarget, Channel.setTarget, enabledFor, clampRamp_toNat]

/-- PROPAGATE leaves everything but the channels, which get SET_TARGET of the resolver's output. -/
theorem State.ch_propagate (s : State) :
    s.propagate.ch1 = s.ch1.setTarget (resolve s.globalRamp s.chanMode s.blend).1 ∧
      s.propagate.ch2 = s.ch2.setTarget (resolve s.globalRamp s.chanMode s.blend).2 := ⟨rfl, rfl⟩

@[simp] theorem State.cntTop_propagate (s : State) : s.propagate.cntTop = s.cntTop := rfl
@[simp] theorem State.cntMode_propagate (s : State) : s.propagate.cntMode = s.cntMode := rfl
@[simp] theorem State.cfgLocked_propagate (s : State) : s.propagate.cfgLocked = s.cfgLocked := rfl
@[simp] theorem State.globalRamp_propagate (s : State) : s.propagate.globalRamp = s.globalRamp := rfl
@[simp] theorem State.chanMode_propagate (s : State) : s.propagate.chanMode = s.chanMode := rfl
@[simp] theorem State.blend_propagate (s : State) : s.propagate.blend = s.blend := rfl
@[simp] theorem State.inputs_propagate (s : State) : s.propagate.inputs = s.inputs := rfl
@[simp] theorem State.params_propagate (s : State) : s.propagate.params = s.params := rfl

/-! ### DSM_STEP and TICK -/

/-- The carry (R17, R104). -/
theorem dsmCarry_iff (x : Channel) : dsmCarry x = true ↔ 128 ≤ x.accumulator.toNat + x.fraction.toNat :=
  decide_eq_true_iff

@[simp] theorem Channel.integerDuty_dsmStep (x : Channel) : x.dsmStep.integerDuty = x.integerDuty := by
  unfold Channel.dsmStep; split <;> rfl
@[simp] theorem Channel.fraction_dsmStep (x : Channel) : x.dsmStep.fraction = x.fraction := by
  unfold Channel.dsmStep; split <;> rfl
@[simp] theorem Channel.enabled_dsmStep (x : Channel) : x.dsmStep.enabled = x.enabled := by
  unfold Channel.dsmStep; split <;> rfl
@[simp] theorem Channel.ramp_dsmStep (x : Channel) : x.dsmStep.ramp = x.ramp := by simp [Channel.ramp]

/-- The accumulator after a step is the sum's low 7 bits, carry or not (R26, R104). -/
theorem Channel.accumulator_dsmStep (x : Channel) :
    x.dsmStep.accumulator.toNat = (x.accumulator.toNat + x.fraction.toNat) % 128 := by
  have ha := x.accumulator.isLt
  have hf := x.fraction.isLt
  unfold Channel.dsmStep
  split
  case isTrue h =>
    rw [dsmCarry_iff] at h
    simp only [dsmSum, Config.fracMod, BitVec.toNat_ofNat]
    omega
  case isFalse => simp [dsmSum]

/-- The duty after a step: one more on a carry, saturated at 255 (R101, R102). -/
theorem Channel.dutyOut_dsmStep (x : Channel) :
    x.dsmStep.dutyOut.toNat =
      if 128 ≤ x.accumulator.toNat + x.fraction.toNat then min (x.integerDuty.toNat + 1) 255
      else x.integerDuty.toNat := by
  by_cases h : dsmCarry x = true
  · rw [if_pos ((dsmCarry_iff x).mp h)]
    simp only [Channel.dsmStep, h, if_true, Config.dutyMax, BitVec.toNat_ofNat]
    omega
  · rw [if_neg (fun hc => h ((dsmCarry_iff x).mpr hc))]
    simp [Channel.dsmStep, h]

/-- A channel whose fraction is 0 and whose duty register holds the integer duty is not changed by a step (R108). -/
theorem Channel.dsmStep_of_fraction_zero (x : Channel) (hf : x.fraction.toNat = 0) (hd : x.dutyOut = x.integerDuty) :
    x.dsmStep = x := by
  have ha := x.accumulator.isLt
  have hc : ¬ dsmCarry x = true := by rw [dsmCarry_iff]; omega
  cases x
  simp_all [Channel.dsmStep, dsmSum]

@[simp] theorem Channel.gatedStep_false (x : Channel) : x.gatedStep false = x.dsmStep := rfl

/-- With the gate, a channel steps exactly when it is armed. -/
theorem Channel.gatedStep_true (x : Channel) :
    x.gatedStep true = if x.fraction.toNat = 0 then x else x.dsmStep := by
  by_cases h : x.fraction.toNat = 0 <;> simp [Channel.gatedStep, armed, h]

/-- A channel's part of TICK is nothing or one step. -/
theorem Channel.gatedStep_cases (gate : Bool) (x : Channel) :
    x.gatedStep gate = x ∧ x.fraction.toNat = 0 ∨ x.gatedStep gate = x.dsmStep := by
  cases gate
  · exact .inr rfl
  · rw [Channel.gatedStep_true]
    split
    · exact .inl ⟨rfl, ‹_›⟩
    · exact .inr rfl

/-- The accumulator after a channel's part of TICK, whatever the gate. -/
theorem Channel.accumulator_gatedStep (gate : Bool) (x : Channel) :
    (x.gatedStep gate).accumulator.toNat = (x.accumulator.toNat + x.fraction.toNat) % 128 := by
  have ha := x.accumulator.isLt
  rcases x.gatedStep_cases gate with ⟨h, hf⟩ | h
  · rw [h, hf]; omega
  · rw [h, x.accumulator_dsmStep]

@[simp] theorem Channel.integerDuty_gatedStep (gate : Bool) (x : Channel) :
    (x.gatedStep gate).integerDuty = x.integerDuty := by
  rcases x.gatedStep_cases gate with ⟨h, _⟩ | h <;> simp [h]
@[simp] theorem Channel.fraction_gatedStep (gate : Bool) (x : Channel) :
    (x.gatedStep gate).fraction = x.fraction := by
  rcases x.gatedStep_cases gate with ⟨h, _⟩ | h <;> simp [h]
@[simp] theorem Channel.enabled_gatedStep (gate : Bool) (x : Channel) :
    (x.gatedStep gate).enabled = x.enabled := by
  rcases x.gatedStep_cases gate with ⟨h, _⟩ | h <;> simp [h]
@[simp] theorem Channel.ramp_gatedStep (gate : Bool) (x : Channel) : (x.gatedStep gate).ramp = x.ramp := by
  simp [Channel.ramp]

/-- TICK gives each channel its own step and changes nothing else. -/
@[simp] theorem State.ch_tick (s : State) (c : ChannelId) : s.tick.ch c = (s.ch c).gatedStep s.params.dsmGate := by
  cases c <;> rfl
@[simp] theorem State.ch1_tick (s : State) : s.tick.ch1 = s.ch1.gatedStep s.params.dsmGate := rfl
@[simp] theorem State.ch2_tick (s : State) : s.tick.ch2 = s.ch2.gatedStep s.params.dsmGate := rfl
@[simp] theorem State.cntTop_tick (s : State) : s.tick.cntTop = s.cntTop := rfl
@[simp] theorem State.cntMode_tick (s : State) : s.tick.cntMode = s.cntMode := rfl
@[simp] theorem State.cfgLocked_tick (s : State) : s.tick.cfgLocked = s.cfgLocked := rfl
@[simp] theorem State.globalRamp_tick (s : State) : s.tick.globalRamp = s.globalRamp := rfl
@[simp] theorem State.chanMode_tick (s : State) : s.tick.chanMode = s.chanMode := rfl
@[simp] theorem State.blend_tick (s : State) : s.tick.blend = s.blend := rfl
@[simp] theorem State.inputs_tick (s : State) : s.tick.inputs = s.inputs := rfl
@[simp] theorem State.params_tick (s : State) : s.tick.params = s.params := rfl

end Sys2Proof.Machine
end

