-- ==== Sys2Proof/Laws/PerInstr.lean ====
section
/-! SUPPORT. Statements made of every operation, one lemma per constructor of `Instr`. -/

namespace Sys2Proof.Laws

/-- The encoding of the operation has the fixed bits of its own row of spec/opcode_table.json, in that row's format. -/
def FixedBits.Statement (i : Instr) : Prop :=
  ∃ r ∈ opcodeTable, r.mnemonic = mnemonicOf i ∧ r.admits (encode i) = true

theorem FixedBits.configure (top : Duty) (cmode : CntMode) : FixedBits.Statement (.configure top cmode) :=
  ⟨opcodeTable[0]'(by decide), List.getElem_mem _, rfl,
    beq_iff_eq.mpr (commandWord_and_mask _ _)⟩

theorem FixedBits.setChannelMode (m : Arg) : FixedBits.Statement (.setChannelMode m) :=
  ⟨opcodeTable[1]'(by decide), List.getElem_mem _, rfl,
    beq_iff_eq.mpr (commandWord_and_mask _ _)⟩

theorem FixedBits.setRamp (level : Arg) : FixedBits.Statement (.setRamp level) :=
  ⟨opcodeTable[2]'(by decide), List.getElem_mem _, rfl,
    beq_iff_eq.mpr (commandWord_and_mask _ _)⟩

theorem FixedBits.setBlend (ratio : Arg) : FixedBits.Statement (.setBlend ratio) :=
  ⟨opcodeTable[3]'(by decide), List.getElem_mem _, rfl,
    beq_iff_eq.mpr (commandWord_and_mask _ _)⟩

theorem FixedBits.reset : FixedBits.Statement .reset :=
  ⟨opcodeTable[4]'(by decide), List.getElem_mem _, rfl, rfl⟩

theorem FixedBits.tick : FixedBits.Statement .tick :=
  ⟨opcodeTable[5]'(by decide), List.getElem_mem _, rfl, rfl⟩

end Sys2Proof.Laws
end

