-- ==== Sys2Proof/Laws/Step.lean ====
section
/-! SUPPORT. What the meanings, the events of an edge and the step can do, said once. -/

namespace Sys2Proof.Machine

/-! ### The meanings -/

theorem exec_configure_unlocked (top : Duty) (cmode : CntMode) (s : State) (h : s.cfgLocked = false) :
    exec (.configure top cmode) s = .next (s.lockConfig top cmode) := by
  simp [exec, execConfigure, h]
theorem exec_configure_locked (top : Duty) (cmode : CntMode) (s : State) (h : s.cfgLocked = true) :
    exec (.configure top cmode) s = .next s := by
  simp [exec, execConfigure, h]
theorem exec_setChannelMode (m : Arg) (s : State) :
    exec (.setChannelMode m) s = .next (s.latchMode (clampMode m.toNat)).propagate := rfl
theorem exec_setRamp (level : Arg) (s : State) :
    exec (.setRamp level) s = .next (s.latchRamp (clampRamp level.toNat)).propagate := rfl
theorem exec_setBlend (ratio : Arg) (s : State) :
    exec (.setBlend ratio) s = .next (s.latchBlend (clampBlend ratio.toNat)).propagate := rfl
theorem exec_reset (s : State) :
    exec .reset s = .next ((State.resetWith s.params).withInputs s.inputs) := rfl
theorem exec_tick (s : State) : exec .tick s = .next s.tick := rfl

/-- No operation is refused and none faults (R170, R172). -/
theorem exec_next (i : Instr) (s : State) : ∃ t, exec i s = .next t := by
  cases i <;> exact ⟨_, rfl⟩

/-- No operation writes the open parameters or consumes an edge. -/
theorem exec_surroundings (i : Instr) (s t : State) (h : exec i s = .next t) :
    t.inputs = s.inputs ∧ t.params = s.params := by
  cases i
  case configure top cmode =>
    cases hl : s.cfgLocked
    · rw [exec_configure_unlocked _ _ _ hl] at h
      cases h
      exact ⟨rfl, rfl⟩
    · rw [exec_configure_locked _ _ _ hl] at h
      cases h
      exact ⟨rfl, rfl⟩
  all_goals
    cases h
    exact ⟨rfl, rfl⟩

/-! ### The events of an edge -/

@[simp] theorem runEvents_nil (s : State) : runEvents [] s = .next s := rfl

theorem runEvents_cons_next (i : Instr) (rest : List Instr) (s t : State) (h : exec i s = .next t) :
    runEvents (i :: rest) s = runEvents rest t := by
  simp [runEvents, h]

theorem runEvents_singleton (i : Instr) (s : State) : runEvents [i] s = exec i s := by
  obtain ⟨t, h⟩ := exec_next i s
  rw [runEvents_cons_next i [] s t h, runEvents_nil, h]

/-- A sequence of events always goes on. -/
theorem runEvents_next (es : List Instr) (s : State) : ∃ t, runEvents es s = .next t := by
  induction es generalizing s with
  | nil => exact ⟨s, rfl⟩
  | cons i rest ih =>
    obtain ⟨u, hu⟩ := exec_next i s
    rw [runEvents_cons_next i rest s u hu]
    exact ih u

/-- A property that every operation keeps is kept by every sequence of events. -/
theorem runEvents_keeps (P : State → Prop) (hP : ∀ i s t, exec i s = .next t → P s → P t)
    (es : List Instr) (s t : State) (h : runEvents es s = .next t) (hs : P s) : P t := by
  induction es generalizing s with
  | nil => cases h; exact hs
  | cons i rest ih =>
    obtain ⟨u, hu⟩ := exec_next i s
    rw [runEvents_cons_next i rest s u hu] at h
    exact ih u h (hP i s u hu hs)

@[simp] theorem edgeEvents_idle : edgeEvents Edge.idle = [] := by decide

/-- What the strobe pins of an edge decode to (R77). -/
theorem decodeStrobe_strobes (e : Edge) :
    decodeStrobe e.strobes = if e.rst then .ok .reset else if e.ovf then .ok .tick else .error .idleStrobe := by
  rcases e with ⟨r, v, w, o⟩
  unfold Edge.strobes decodeStrobe
  cases r <;> cases o <;> simp

/-- With `rst`, the edge is RESET alone (R52). -/
theorem edgeEvents_rst (e : Edge) (h : e.rst = true) : edgeEvents e = [.reset] := by
  simp [edgeEvents, decodeStrobe_strobes, h, eventOf]

/-- Without `rst`, the edge is its command, if one is valid, and then the tick, if the counter overflowed (R52). -/
theorem edgeEvents_no_rst (e : Edge) (h : e.rst = false) :
    edgeEvents e = (if e.cmdValid then eventOf (decodeCommand e.cmdWord) else []) ++
      (if e.ovf then [.tick] else []) := by
  cases ho : e.ovf <;> simp [edgeEvents, decodeStrobe_strobes, h, ho, eventOf]

/-- An edge that presents one port value has that value's event and no other. -/
theorem edgeEvents_ofPortWord (p : PortWord) : edgeEvents (Edge.ofPortWord p) = eventOf (decode p) := by
  cases p with
  | command w =>
    rw [edgeEvents_no_rst _ rfl]
    simp [Edge.ofPortWord, decode]
  | strobe pins =>
    have := pins.isLt
    have hp : pins = 0 ∨ pins = 1 ∨ pins = 2 ∨ pins = 3 := by
      simp only [← BitVec.toNat_inj]
      change pins.toNat = 0 ∨ pins.toNat = 1 ∨ pins.toNat = 2 ∨ pins.toNat = 3
      omega
    rcases hp with rfl | rfl | rfl | rfl <;> decide

/-! ### The step -/

theorem step_nil (s : State) (h : s.inputs = []) : step s = .next s := by
  simp [step, State.sample, h, runEdge]

theorem step_cons (s : State) (e : Edge) (rest : List Edge) (h : s.inputs = e :: rest) :
    step s = runEvents (edgeEvents e) (s.withInputs rest) := by
  simp [step, State.sample, h, runEdge]

/-- Every step is some events on the state with some edges waiting: with nothing waiting no event, else the oldest edge's. -/
theorem step_eq_runEvents (s : State) :
    step s = runEvents (edgeEvents s.sample.1) s.sample.2 := rfl

theorem sample_registers (s : State) : ∃ es, s.sample.2 = s.withInputs es := by
  rcases s with ⟨_, _, _, _, _, _, _, _, _ | ⟨e, rest⟩, _⟩
  · exact ⟨[], rfl⟩
  · exact ⟨rest, rfl⟩

/-- A property of the registers that every operation keeps is kept by every step. -/
theorem step_keeps (P : State → Prop) (hIn : ∀ s es, P s → P (s.withInputs es))
    (hP : ∀ i s t, exec i s = .next t → P s → P t) (s t : State) (h : step s = .next t) (hs : P s) : P t := by
  obtain ⟨es, hes⟩ := sample_registers s
  rw [step_eq_runEvents, hes] at h
  exact runEvents_keeps P hP _ _ _ h (hIn s es hs)

/-- Every step goes on. -/
theorem step_next (s : State) : ∃ t, step s = .next t := runEvents_next _ _

/-! ### Runs -/

theorem run_zero (s : State) : Host.Core.run Sys2Proof.core 0 s = .next s := rfl

theorem run_succ (n : Nat) (s t : State) (h : step s = .next t) :
    Host.Core.run Sys2Proof.core (n + 1) s = Host.Core.run Sys2Proof.core n t := by
  have hc : Sys2Proof.core.step s = .next t := h
  exact (Host.Core.run.eq_2 Sys2Proof.core s n).trans (by rw [hc])

/-- A run of one edge more is a step and a run. -/
theorem runsTo_succ_iff (n : Nat) (s u : State) : RunsTo (n + 1) s u ↔ ∃ t, step s = .next t ∧ RunsTo n t u := by
  obtain ⟨t, ht⟩ := step_next s
  rw [RunsTo, run_succ n s t ht]
  constructor
  · exact fun h => ⟨t, ht, h⟩
  · rintro ⟨t', ht', h⟩
    rw [ht] at ht'
    cases ht'
    exact h

end Sys2Proof.Machine
end

