-- ==== Sys2Proof/Tests/Slice0.lean ====
section
/-! SUPPORT. The model's own tests. Expected results come from spec/95_test_vectors.md (the tables and programs named in the
docstrings) or are worked by hand from the rules; the witnesses show that the hypotheses of the statements can be met. -/

namespace Sys2Proof.Tests

open Sys2Proof.Machine

/-- The next state, where there is one. -/
def after : Host.Outcome State Fault Refusal → Option State
  | .next s => some s
  | .fault _ => none
  | .refused _ => none

/-- A channel from the five values of the spec's test notation. -/
def chan (i f a : Nat) (en : Bool) (d : Nat) : Channel :=
  { integerDuty := BitVec.ofNat 8 i, fraction := BitVec.ofNat 7 f, accumulator := BitVec.ofNat 7 a,
    enabled := en, dutyOut := BitVec.ofNat 8 d }

/-- Both channels at half scale, tied, channel 1 about to carry (program P1 after event 5, but channel 2's accumulator). -/
def lit : State :=
  { State.reset with globalRamp := 16320, chanMode := .bothTied, ch1 := chan 127 64 64 true 127,
                     ch2 := chan 127 64 0 true 127 }

/-- CounterConfig written and locked (program P3 after event 7). -/
def locked : State := State.reset.lockConfig 100 .fast

/-- `s` with the optional gate. -/
def gated (s : State) : State := { s with params := { s.params with dsmGate := true } }

/-! ### Well-formedness -/

/-- R82: 'A number outside 0..65535 cannot be written.' -/
theorem test_number_too_large : (AsmLine.setRamp 65536).wellFormed = false := by decide
theorem test_ratio_too_large : (AsmLine.setBlend 65536).wellFormed = false := by decide
theorem test_mode_too_large : (AsmLine.setChannelMode (.number 65536)).wellFormed = false := by decide
theorem test_count_too_large : (AsmLine.ticks 65536).wellFormed = false := by decide
/-- A `top` of 256 does not fit its field (R73). -/
theorem test_top_too_large : (AsmLine.configure 256 .fast).wellFormed = false := by decide
/-- A literal word has 20 bits (R83). -/
theorem test_word_too_large : (AsmLine.word (2 ^ 20)).wellFormed = false := by decide
theorem test_largest_line_is_refused_in_a_program : assemble [.tick, .setRamp 65536] = none := by decide
theorem test_largest_number_is_written : (AsmLine.setRamp 65535).wellFormed = true := by decide

/-! ### Decoding, word by word from the spec's encodings (R70 to R77, R84, table E) -/

/-- op = 0001, reserved = 0000000, m = 1, top = 11111111. -/
theorem test_decode_configure :
    decode (.command 0b0001_0000000_1_11111111) = .ok (.configure 255 .fast) := by rfl
/-- The reserved bits are ignored (table E, 0x1FE64). -/
theorem test_decode_configure_reserved_bits :
    decode (.command 0b0001_1111111_0_01100100) = .ok (.configure 100 .phaseCorrect) := by rfl
/-- op = 0010, m = 4. -/
theorem test_decode_setChannelMode :
    decode (.command 0b0010_0000000000000100) = .ok (.setChannelMode 4) := by rfl
/-- op = 0011, level = 0x3FC0 = 16320. -/
theorem test_decode_setRamp : decode (.command 0b0011_0011111111000000) = .ok (.setRamp 16320) := by rfl
/-- op = 0100, ratio = 0x0100 = 256, not yet clamped. -/
theorem test_decode_setBlend : decode (.command 0b0100_0000000100000000) = .ok (.setBlend 256) := by rfl
theorem test_decode_reset : decode (.strobe 0b11) = .ok .reset := by rfl
theorem test_decode_tick : decode (.strobe 0b01) = .ok .tick := by rfl
theorem test_decode_reserved : decode (.command 0xF1234) = .error (.reservedOpcode 15) := by rfl
/-- R84: `CONFIGURE 255, FAST` is 0x101FF. -/
theorem test_encode_configure : encode (.configure 255 .fast) = .command 0x101FF := by decide
/-- R84: `SET_RAMP 16320` is 0x33FC0. -/
theorem test_encode_setRamp : encode (.setRamp 16320) = .command 0x33FC0 := by decide
/-- The table's numbering: a row of format CW has 20 bits (three bytes), one of format ST has 2 (one byte). -/
theorem test_table_words :
    decodeTableWord 24 0x20003 = some (.setChannelMode 3) ∧ decodeTableWord 24 0x40080 = some (.setBlend 128) ∧
    decodeTableWord 8 2 = some .reset ∧ decodeTableWord 8 1 = some .tick ∧ decodeTableWord 8 0 = none ∧
    decodeTableWord 24 0x50000 = none := by decide

/-! ### The operations -/

/-- Table K, row 1. -/
theorem test_configure_first :
    after (exec (.configure 255 .fast) State.reset) = some { State.reset with cntMode := .fast, cfgLocked := true } := by
  decide
/-- Table K, row 4. -/
theorem test_configure_locked : after (exec (.configure 127 .phaseCorrect) locked) = some locked := by decide
/-- Table Q, row 5, from its SET_RAMP: in AUTO_BLEND (a code of 9 is clamped to 4). -/
theorem test_setChannelMode_clamps :
    (after (exec (.setChannelMode 9) { State.reset with globalRamp := 16320 })).map (fun t => (t.chanMode, t.ch1, t.ch2)) =
      some (.autoBlend, chan 64 0 0 true 64, chan 63 64 0 true 63) := by decide
/-- R150's example. -/
theorem test_setChannelMode_tied :
    (after (exec (.setChannelMode 2) { State.reset with globalRamp := 16320 })).map (fun t => (t.ch1, t.ch2)) =
      some (chan 127 64 0 true 127, chan 127 64 0 true 127) := by decide
/-- Table Q, row 2. -/
theorem test_setRamp_clamps :
    (after (exec (.setRamp 40000) State.reset)).map (fun t => (t.globalRamp, t.ch1, t.ch2)) =
      some (32640, chan 255 0 0 true 255, chan 0 0 0 false 0) := by decide
/-- Program P2, event 3. -/
theorem test_setRamp_blends :
    (after (exec (.setRamp 1000) { State.reset with chanMode := .manualBlend })).map (fun t => (t.ch1, t.ch2)) =
      some (chan 3 114 0 true 3, chan 3 118 0 true 3) := by decide
/-- Program P2, event 8: the accumulators 72 and 88 carry over, `duty_out` drops to the new integer duties. -/
theorem test_setBlend_keeps_accumulators :
    (after (exec (.setBlend 200) { State.reset with
        globalRamp := 1000, chanMode := .manualBlend, ch1 := chan 3 114 72 true 4, ch2 := chan 3 118 88 true 4 })).map
      (fun t => (t.blend, t.ch1, t.ch2)) = some (200, chan 1 88 72 true 1, chan 6 16 88 true 6) := by decide
/-- R152: 300 is clamped to 255. -/
theorem test_setBlend_clamps : (after (exec (.setBlend 300) State.reset)).map (·.blend) = some 255 := by decide
/-- Table K, row 5, and table Z. -/
theorem test_reset : after (exec .reset (lit.lockConfig 100 .fast)) = some State.reset := by decide
/-- R200 under other open parameters. -/
theorem test_reset_parameters :
    (after (exec .reset { lit with params := ⟨.manualBlend, .fast, true⟩ })).map (fun t => (t.chanMode, t.cntMode)) =
      some (.manualBlend, .fast) := by decide
/-- Channel 1: 64 + 64 = 128 carries; channel 2: 0 + 64 does not (table M2, rows 3 and 4). -/
theorem test_tick :
    (after (exec .tick lit)).map (fun t => (t.ch1, t.ch2)) =
      some (chan 127 64 0 true 128, chan 127 64 64 true 127) := by decide
/-- Table M2, rows 6, 9, 10, 12 and the last two, which saturate. -/
theorem test_dsmStep :
    (chan 3 1 127 true 0).dsmStep = chan 3 1 0 true 4 ∧ (chan 10 127 127 true 0).dsmStep = chan 10 127 126 true 11 ∧
    (chan 254 127 127 true 0).dsmStep = chan 254 127 126 true 255 ∧
    (chan 255 0 127 true 0).dsmStep = chan 255 0 127 true 255 ∧
    (chan 255 5 126 true 0).dsmStep = chan 255 5 3 true 255 ∧
    (chan 255 127 127 true 0).dsmStep = chan 255 127 126 true 255 := by decide
/-- Table T: 1, 32639 and 32767. -/
theorem test_setTarget :
    (chan 0 0 9 false 0).setTarget 1 = chan 0 1 9 true 0 ∧
    (chan 0 0 9 false 0).setTarget 32639 = chan 254 127 9 true 254 ∧
    (chan 0 0 9 false 0).setTarget 32767 = chan 255 0 9 true 255 := by decide
/-- Tables V2 and V3: cells worked there. -/
theorem test_resolve :
    resolve 1000 .manualBlend 64 = (749, 251) ∧ resolve 16320 .manualBlend 128 = (8128, 8192) ∧
    resolve 20000 .autoBlend 0 = (7765, 12235) ∧ resolve 32511 .autoBlend 9 = (255, 32256) := by decide

/-! ### Edges and steps -/

/-- Table O: on one edge the command is first, the tick runs on the new state. -/
theorem test_command_then_tick :
    (after (step { State.reset with ch1 := chan 1 64 0 true 1, inputs := [⟨false, true, 0x33FC0, true⟩] })).map (·.ch1) =
      some (chan 127 64 64 true 127) := by decide
/-- Table Z: a RESET on the same edge as `SET_RAMP 16320` and `ovf` discards both. -/
theorem test_reset_edge : after (step (lit.withInputs [⟨true, true, 0x33FC0, true⟩])) = some State.reset := by decide
/-- Program P3, event 5. -/
theorem test_reserved_word : after (step (lit.withInputs [⟨false, true, 0xF1234, false⟩])) = some lit := by decide
/-- A table word is run by the very next step. -/
theorem test_fetch_word :
    after (step (State.reset.withFetchWord 24 0x33FC0)) = after (exec (.setRamp 16320) State.reset) ∧
    after (step (State.reset.withFetchWord 8 1)) = some State.reset := by decide

/-! ### Assembler lines -/

/-- Program P1, event 2, read from its characters. -/
theorem test_read_configure :
    readLine ['C', 'O', 'N', 'F', 'I', 'G', 'U', 'R', 'E', ' ', '2', '5', '5', ',', ' ', 'F', 'A', 'S', 'T', ' ', ';', 'x'] =
      some [.configure 255 .fast] := by decide
/-- A number in hexadecimal. -/
theorem test_read_hexadecimal :
    readLine ['S', 'E', 'T', '_', 'R', 'A', 'M', 'P', ' ', '0', 'x', '3', 'F', 'C', '0'] = some [.setRamp 16320] := by decide
/-- Names are case-sensitive (R82). -/
theorem test_read_case : readLine ['t', 'i', 'c', 'k'] = none := by decide

/-! ### Witnesses: states and operands that meet the hypotheses of the statements -/

theorem lit_inv : lit.Inv where
  ch1 := ⟨by decide, by decide, by decide⟩
  ch2 := ⟨by decide, by decide, by decide⟩
  targets := by decide
  level := by decide
  power := by decide

theorem reset_inv : State.reset.Inv where
  ch1 := ⟨by decide, by decide, by decide⟩
  ch2 := ⟨by decide, by decide, by decide⟩
  targets := by decide
  level := by decide
  power := by decide

/-- Each clause, at both ends of its words. -/
theorem witness_CommandWordDecodesByOpMap :
    (0x10000 : CommandWord).toNat / 65536 = 1 ∧ (0x1FFFF : CommandWord).toNat / 65536 = 1 ∧
    (0x20000 : CommandWord).toNat / 65536 = 2 ∧ (0x2FFFF : CommandWord).toNat / 65536 = 2 ∧
    (0x30000 : CommandWord).toNat / 65536 = 3 ∧ (0x3FFFF : CommandWord).toNat / 65536 = 3 ∧
    (0x40000 : CommandWord).toNat / 65536 = 4 ∧ (0x4FFFF : CommandWord).toNat / 65536 = 4 ∧
    (0x0FFFF : CommandWord).toNat / 65536 = 0 ∧ 5 ≤ (0x50000 : CommandWord).toNat / 65536 ∧
    5 ≤ (0xFFFFF : CommandWord).toNat / 65536 := by decide
theorem witness_DecodeOfEncodeIsTheInstruction : (Instr.configure 255 .fast).wellFormed = true := by decide
theorem witness_EncodeOfDecodeClearsIgnoredBits :
    decode (.command 0x1FE64) = .ok (.configure 100 .phaseCorrect) ∧ decode (.command 0x4FFFF) = .ok (.setBlend 65535) ∧
    decode (.strobe 0b11) = .ok .reset ∧ decode (.strobe 0b01) = .ok .tick := ⟨rfl, rfl, rfl, rfl⟩
theorem witness_DecodeAgreesWithOpcodeTable :
    { mnemonic := "RESET", shape := .inr (0b10, 0b10) } ∈ opcodeTable := by decide
theorem witness_PlacedTableWordRunsNext : decodeTableWord 24 0x33FC0 = some (.setRamp 16320) := by decide
theorem witness_StepRunsTheDecodedOperation :
    (lit.withInputs [Edge.ofPortWord (.command 0x33FC0), tickEdge]).inputs = Edge.ofPortWord (.command 0x33FC0) :: [tickEdge] ∧
    decode (.command 0x33FC0) = .ok (.setRamp 16320) := ⟨rfl, rfl⟩
theorem witness_CommandTakesEffectBeforeTick : decode (.command 0x20004) = .ok (.setChannelMode 4) := rfl
theorem witness_ResetOverridesTheOtherInputs :
    (⟨true, true, 0x33FC0, true⟩ : Edge).rst = true ∧
    (lit.withInputs [⟨true, true, 0x33FC0, true⟩]).inputs = [⟨true, true, 0x33FC0, true⟩] := ⟨rfl, rfl⟩
theorem witness_ReservedWordIsIgnored :
    (0x00000 : CommandWord).toNat / 65536 = 0 ∧ 5 ≤ (0x50000 : CommandWord).toNat / 65536 ∧
    (lit.withInputs [⟨false, true, 0x50000, true⟩]).inputs = [⟨false, true, 0x50000, true⟩] := by decide
theorem witness_IdleEdgeChangesNothing :
    (lit.withInputs [⟨false, false, 0x33FC0, false⟩]).inputs = [⟨false, false, 0x33FC0, false⟩] := rfl
theorem witness_StepWithNothingWaitingIsIdle : lit.inputs = [] := rfl
theorem witness_FirstConfigureWritesAndLocks : lit.cfgLocked = false := rfl
theorem witness_LaterConfigureIsIgnored : locked.cfgLocked = true := rfl
theorem witness_CounterConfigIsWriteOnce :
    locked.cfgLocked = true ∧ (∀ e ∈ (locked.withInputs [tickEdge]).inputs, e.rst = false) ∧
    RunsTo 0 (locked.withInputs [tickEdge]) (locked.withInputs [tickEdge]) ∧
    (after (step (locked.withInputs [tickEdge]))).isSome = true := ⟨rfl, by decide, rfl, by decide⟩
theorem witness_SetChannelModeClampsAndPropagates :
    ({ lit with globalRamp := 32640 } : State).globalRamp.toNat ≤ 32640 := by decide
theorem witness_SetBlendClampsAndPropagates : lit.globalRamp.toNat ≤ 32640 := by decide
theorem witness_BlendIsUnusedOutsideManualBlend : lit.Inv ∧ lit.chanMode ≠ .manualBlend := ⟨lit_inv, by decide⟩
theorem witness_BlendSetEarlyTakesEffectLater : lit.globalRamp.toNat ≤ 32640 := by decide
theorem witness_SingleAndTiedModesResolve : (32640 : RampLevel).toNat ≤ 32640 := by decide
theorem witness_ManualBlendRoundsToNearest : (32640 : RampLevel).toNat ≤ 32640 := by decide
theorem witness_BlendShareIsMonotone :
    (1000 : RampLevel).toNat ≤ (32640 : RampLevel).toNat ∧ (32640 : RampLevel).toNat ≤ 32640 ∧
    (127 : BlendRatio).toNat ≤ (128 : BlendRatio).toNat := by decide
theorem witness_BlendIsMirrorSymmetric : (32640 : RampLevel).toNat ≤ 32640 := by decide
theorem witness_AutoBlendIsLinearInTheLevel :
    (16320 : RampLevel).toNat ≤ 32640 ∧ (0 : RampLevel).toNat = 0 ∧ (32640 : RampLevel).toNat = 32640 := by decide
theorem witness_AutoBlendSweepShape :
    (16383 : RampLevel).toNat ≤ (32640 : RampLevel).toNat ∧ (32640 : RampLevel).toNat ≤ 32640 ∧
    (32512 : RampLevel).toNat = (32511 : RampLevel).toNat + 1 ∧ (32512 : RampLevel).toNat ≤ 32640 := by decide
theorem witness_TargetsSumByMode : (32640 : RampLevel).toNat ≤ 32640 := by decide
theorem witness_ResolverCasesAndReversibility :
    ({ State.reset with chanMode := .autoBlend } : State).chanMode = .autoBlend ∧
    ({ lit with chanMode := .autoBlend } : State).chanMode = .autoBlend ∧ (32640 : RampLevel).toNat ≤ 32640 := by decide
theorem witness_RampLevelRoundTrips :
    (255 : Duty).toNat * 128 + (0 : Frac).toNat ≤ 32640 ∧ 32640 < (255 : Duty).toNat * 128 + (1 : Frac).toNat := by decide
theorem witness_EnabledFollowsTargetAfterEveryCommand :
    (∃ m, Instr.setChannelMode 3 = .setChannelMode m) ∧ (∃ level, Instr.setRamp 1 = .setRamp level) ∧
    (∃ ratio, Instr.setBlend 0 = .setBlend ratio) := ⟨⟨3, rfl⟩, ⟨1, rfl⟩, ⟨0, rfl⟩⟩
/-- Channel 1 of `lit` carries, channel 2 does not. -/
theorem witness_TickStepsEachChannel :
    lit.params.dsmGate = false ∧ 128 ≤ lit.ch1.accumulator.toNat + lit.ch1.fraction.toNat ∧
    lit.ch2.accumulator.toNat + lit.ch2.fraction.toNat < 128 := by decide
theorem witness_GatedTickStepsArmedChannels :
    (gated lit).params.dsmGate = true ∧ ((gated lit).ch .one).fraction ≠ 0 ∧
    (gated State.reset).params.dsmGate = true ∧ ((gated State.reset).ch .one).fraction = 0 := by decide
theorem witness_ZeroFractionGateIsUnobservable : lit.Inv := lit_inv
theorem witness_TickDutyStaysNextToTarget :
    (lit.ch .one).Inv ∧ 128 ≤ (lit.ch .one).accumulator.toNat + (lit.ch .one).fraction.toNat := ⟨lit_inv.ch1, by decide⟩
theorem witness_TicksHaveClosedForm : (lit.ch .one).Inv := lit_inv.ch1
theorem witness_DutyPlusOneIsWrittenFractionTimes :
    (lit.ch .one).Inv ∧ ((({ lit with ch1 := chan 255 1 0 true 255 } : State).ch .one).integerDuty = 255 ∧
      (({ lit with ch1 := chan 255 1 0 true 255 } : State).ch .one).fraction ≠ 0) := ⟨lit_inv.ch1, by decide⟩
/-- A fraction of 64 repeats after 2 ticks (table M5), so 2 is a period: any tick's accumulator comes back after two. -/
theorem witness_DutyPatternIsPeriodic :
    (lit.ch .one).Inv ∧ (lit.ch .one).fraction ≠ 0 ∧ 0 < 2 ∧
    ∀ k, lit.dutyAfterTick .one (k + 2) = lit.dutyAfterTick .one k := by
  have h2 : ∀ k, (lit.ticked (k + 2 + 1)).ch .one = (lit.ticked (k + 1)).ch .one := by
    intro k
    induction k with
    | zero => decide
    | succ k ih =>
      have hp : ∀ n, (lit.ticked n).params = lit.params := by
        intro n
        induction n with
        | zero => rfl
        | succ n ihn => rw [State.ticked, State.params_tick, ihn]
      rw [show k + 1 + 2 + 1 = (k + 2 + 1) + 1 by omega, State.ticked, State.ch_tick, ih, hp,
        State.ticked.eq_2 lit (k + 1), State.ch_tick, hp]
  exact ⟨lit_inv.ch1, by decide, by decide, fun k => by rw [State.dutyAfterTick, State.dutyAfterTick, h2]⟩
theorem witness_WrittenDutiesAverageToTheTarget : (lit.ch .two).Inv := lit_inv.ch2
/-- Each register's change, by one of its operations. -/
theorem witness_RegistersChangeOnlyByTheirOperations :
    (∃ t, exec .tick lit = .next t ∧ t.ch1.accumulator ≠ lit.ch1.accumulator ∧ t.ch1.dutyOut ≠ lit.ch1.dutyOut) ∧
    (∃ t, exec (.setRamp 1) lit = .next t ∧ t.globalRamp ≠ lit.globalRamp ∧ t.ch1.fraction ≠ lit.ch1.fraction) ∧
    (∃ t, exec (.setRamp 0) lit = .next t ∧ t.ch1.enabled ≠ lit.ch1.enabled) ∧
    (∃ t, exec (.configure 0 .fast) lit = .next t ∧ t.cntTop ≠ lit.cntTop ∧ t.cfgLocked ≠ lit.cfgLocked) ∧
    (∃ t, exec (.setChannelMode 0) lit = .next t ∧ t.chanMode ≠ lit.chanMode) ∧
    (∃ t, exec (.setBlend 0) lit = .next t ∧ t.blend ≠ lit.blend) :=
  ⟨⟨_, rfl, by decide⟩, ⟨_, rfl, by decide⟩, ⟨_, rfl, by decide⟩, ⟨_, rfl, by decide⟩, ⟨_, rfl, by decide⟩,
    ⟨_, rfl, by decide⟩⟩
theorem witness_StepKeepsTheInvariant : lit.Inv ∧ ∃ t, step (lit.withInputs [tickEdge]) = .next t :=
  ⟨lit_inv, step_next _⟩
/-- The state after RESET and `SET_RAMP 16320` is reached. -/
theorem witness_ReachableStatesMeetTheInvariant :
    ∃ t, Reachable t ∧ t.ch1 = chan 127 64 0 true 127 := by
  have h : step ((State.resetWith Config.Params.default).withInputs [Edge.ofPortWord (.command 0x33FC0)]) =
      exec (.setRamp 16320) State.reset := by
    rw [step_cons _ _ [] rfl, edgeEvents_ofPortWord]
    exact runEvents_singleton _ _
  exact ⟨_, ⟨_, _, 1, (run_succ 0 _ _ h).trans rfl⟩, by decide⟩
/-- Supplied in `lit`, unsupplied after RESET. -/
theorem witness_UnsuppliedChannelHasZeroDuty :
    lit.Inv ∧ lit.outputs.ch1.en = true ∧ State.reset.Inv ∧ State.reset.outputs.ch1.en = false ∧
    State.reset.outputs.ch2.en = false := ⟨lit_inv, by decide, reset_inv, by decide, by decide⟩
/-- A mode, a ratio, a level of 0 and a tick. -/
theorem witness_LightStaysOffUntilTheRampIsRaised :
    State.reset.Inv ∧ State.reset.globalRamp = 0 ∧
    (∀ e ∈ [Edge.ofPortWord (.command 0x20003), Edge.ofPortWord (.command 0x30000), tickEdge],
      ∀ level, e.cmdValid = true → decode (.command e.cmdWord) = .ok (.setRamp level) → level = 0) := by
  refine ⟨reset_inv, rfl, ?_⟩
  simp only [List.mem_cons, List.not_mem_nil, or_false]
  rintro e (rfl | rfl | rfl) level hv hd
  · cases hd
  · cases hd
    rfl
  · cases hv

end Sys2Proof.Tests
end

section
/-! PROOFS. A ramp level and its two parts (spec/00_scope.md R14), also through SET_TARGET (spec/42_output_driver.md R127). -/

namespace Sys2Proof.Machine

/-! ### The two parts of a ramp level determine it -/

theorem intPart_add_fracPart (r : RampLevel) : (intPart r).toNat * 128 + (fracPart r).toNat = r.toNat := by
  rw [intPart_toNat, fracPart_toNat]
  omega

@[simp] theorem intPart_rampOf (i : Duty) (f : Frac) : intPart (rampOf i f) = i := by
  have hf := f.isLt
  apply BitVec.eq_of_toNat_eq
  rw [intPart_toNat, rampOf_toNat]
  omega

@[simp] theorem fracPart_rampOf (i : Duty) (f : Frac) : fracPart (rampOf i f) = f := by
  have hf := f.isLt
  apply BitVec.eq_of_toNat_eq
  rw [fracPart_toNat, rampOf_toNat]
  omega

/-! ### The clamp keeps a level in range, and makes any other the level of the pair (255, 0) -/

theorem clampRamp_of_le (r : RampLevel) (h : r.toNat ≤ 32640) : clampRamp r.toNat = r := by
  apply BitVec.eq_of_toNat_eq
  rw [clampRamp_toNat, Nat.min_eq_left h]

theorem clampRamp_of_ge (v : Nat) (h : 32640 ≤ v) : clampRamp v = rampOf 255 0 := by
  apply BitVec.eq_of_toNat_eq
  rw [clampRamp_toNat, Nat.min_eq_right h]
  rfl

/-! ### What SET_TARGET writes in the target's two registers -/

@[simp] theorem State.ch_setTarget_self (s : State) (c : ChannelId) (r : RampLevel) :
    (s.setTarget c r).ch c = (s.ch c).setTarget r := by
  simp [State.setTarget]

@[simp] theorem Channel.integerDuty_setTarget (x : Channel) (r : RampLevel) :
    (x.setTarget r).integerDuty = intPart (clampRamp r.toNat) := rfl

@[simp] theorem Channel.fraction_setTarget (x : Channel) (r : RampLevel) :
    (x.setTarget r).fraction = fracPart (clampRamp r.toNat) := rfl

theorem Channel.setTarget_rampOf_of_le (x : Channel) (i : Duty) (f : Frac) (h : i.toNat * 128 + f.toNat ≤ 32640) :
    (x.setTarget (rampOf i f)).integerDuty = i ∧ (x.setTarget (rampOf i f)).fraction = f := by
  have hclamp : clampRamp (rampOf i f).toNat = rampOf i f :=
    clampRamp_of_le _ (by rwa [rampOf_toNat])
  simp [hclamp]

theorem Channel.setTarget_rampOf_of_gt (x : Channel) (i : Duty) (f : Frac) (h : 32640 < i.toNat * 128 + f.toNat) :
    (x.setTarget (rampOf i f)).integerDuty = 255 ∧ (x.setTarget (rampOf i f)).fraction = 0 := by
  have hclamp : clampRamp (rampOf i f).toNat = rampOf 255 0 :=
    clampRamp_of_ge _ (by rw [rampOf_toNat]; exact h.le)
  simp only [Channel.integerDuty_setTarget, Channel.fraction_setTarget, hclamp, intPart_rampOf, fracPart_rampOf, and_self]

/-- Settles O37: the split and the concatenation undo each other, and SET_TARGET adds only the clamp, which keeps the level
up to 32640 and makes it the pair (255, 0) above. -/
theorem rampLevelRoundTrips : Obligations.RampLevelRoundTrips := by
  refine ⟨fun r => ?split, fun i f => ?recombine, fun s c i f => ?throughSetTarget⟩
  case split => exact ⟨intPart_toNat r, fracPart_toNat r, intPart_add_fracPart r⟩
  case recombine => exact ⟨rampOf_toNat i f, intPart_rampOf i f, fracPart_rampOf i f⟩
  case throughSetTarget =>
    rw [State.ch_setTarget_self]
    exact ⟨(s.ch c).setTarget_rampOf_of_le i f, (s.ch c).setTarget_rampOf_of_gt i f⟩

end Sys2Proof.Machine
end

section
/-! PROOFS. The channel mode resolver (spec/43_mode_resolver.md): the targets of each mode (R140 to R143), and the path of
targets that a sequence of SET_RAMP commands drives (R155). -/

namespace Sys2Proof.Machine

/-! ### RESOLVE in each mode -/

@[simp] theorem resolve_ch1Only (g : RampLevel) (b : BlendRatio) : resolve g .ch1Only b = (g, 0) := rfl
@[simp] theorem resolve_ch2Only (g : RampLevel) (b : BlendRatio) : resolve g .ch2Only b = (0, g) := rfl
@[simp] theorem resolve_bothTied (g : RampLevel) (b : BlendRatio) : resolve g .bothTied b = (g, g) := rfl

/-- Two pairs of targets with the same numbers are the same. -/
theorem targets_ext {t u : RampLevel × RampLevel} (h1 : t.1.toNat = u.1.toNat) (h2 : t.2.toNat = u.2.toNat) : t = u :=
  Prod.ext (BitVec.eq_of_toNat_eq h1) (BitVec.eq_of_toNat_eq h2)

theorem resolve_manualBlend_zero (g : RampLevel) : resolve g .manualBlend 0 = (g, 0) := by
  apply targets_ext
  · simp [resolve_fst_toNat, targetsOf]
  · simp [resolve_snd_toNat, targetsOf]

theorem resolve_manualBlend_full (g : RampLevel) : resolve g .manualBlend 255 = (0, g) := by
  have hshare : (255 * g.toNat + 127) / 255 = g.toNat := by omega
  apply targets_ext
  · simp [resolve_fst_toNat, targetsOf, hshare]
  · simp [resolve_snd_toNat, targetsOf, hshare]

/-- AUTO_BLEND does not read the blend register (R145). -/
theorem targetsOf_autoBlend (g b b' : Nat) : targetsOf g .autoBlend b = targetsOf g .autoBlend b' := rfl

/-! ### The targets that the commands leave -/

/-- For a level in range, PROPAGATE installs RESOLVE's targets as they are: the clamp of SET_TARGET does not act (R147). -/
theorem State.ramp_propagate (s : State) (h : s.globalRamp.toNat ≤ 32640) :
    (s.propagate.ch1.ramp, s.propagate.ch2.ramp) = targetsOf s.globalRamp.toNat s.chanMode s.blend.toNat := by
  obtain ⟨hch1, hch2⟩ := s.ch_propagate
  obtain ⟨hle1, hle2⟩ := resolve_le s.globalRamp s.chanMode s.blend
  rw [hch1, hch2, Channel.ramp_setTarget, Channel.ramp_setTarget, Nat.min_eq_left (hle1.trans h),
    Nat.min_eq_left (hle2.trans h), resolve_toNat]

/-- Each point of the path is a function of that command's level alone, once the mode and the ratio are given: SET_RAMP
writes neither, and RESOLVE keeps no history (R135). -/
theorem State.rampPath_eq_map (levels : List Arg) (s : State) :
    State.rampPath levels s =
      levels.map fun level => targetsOf (min level.toNat 32640) s.chanMode s.blend.toNat := by
  induction levels generalizing s with
  | nil => rfl
  | cons level rest ih =>
    have hlevel : (clampRamp level.toNat).toNat = min level.toNat 32640 := clampRamp_toNat _
    have hpoint := (s.latchRamp (clampRamp level.toNat)).ramp_propagate (by simp [hlevel])
    simp only [State.globalRamp_latchRamp, State.chanMode_latchRamp, State.blend_latchRamp, hlevel] at hpoint
    simp [State.rampPath, exec_setRamp, hpoint, ih]

/-- In AUTO_BLEND the path does not depend on the state it starts from. -/
theorem State.rampPath_autoBlend (levels : List Arg) (s u : State) (hs : s.chanMode = .autoBlend)
    (hu : u.chanMode = .autoBlend) : State.rampPath levels s = State.rampPath levels u := by
  rw [State.rampPath_eq_map, State.rampPath_eq_map, hs, hu]
  exact List.map_congr_left fun _ _ => targetsOf_autoBlend _ _ _

theorem State.rampPath_reverse (levels : List Arg) (s : State) :
    State.rampPath levels.reverse s = (State.rampPath levels s).reverse := by
  rw [State.rampPath_eq_map, State.rampPath_eq_map, List.map_reverse]

theorem State.length_rampPath (levels : List Arg) (s : State) : (State.rampPath levels s).length = levels.length := by
  rw [State.rampPath_eq_map, List.length_map]

/-- Settles O35: the path is the image of the levels under one function, so it reverses with them (no hysteresis). -/
theorem resolverCasesAndReversibility : Obligations.ResolverCasesAndReversibility := by
  refine ⟨fun b => ?tiedAndSingle, fun g _ => ?blendEnds, fun levels s u hs hu => ?sweep⟩
  case tiedAndSingle => exact ⟨resolve_bothTied 16320 b, resolve_ch1Only 16320 b⟩
  case blendEnds => exact ⟨resolve_manualBlend_zero g, resolve_manualBlend_full g⟩
  case sweep =>
    rw [State.rampPath_autoBlend levels.reverse u s hu hs]
    exact ⟨State.rampPath_reverse levels s, State.length_rampPath levels s⟩

/-- Settles O28: one equation of RESOLVE per mode. -/
theorem singleAndTiedModesResolve : Obligations.SingleAndTiedModesResolve := fun g b _ =>
  ⟨resolve_ch1Only g b, resolve_ch2Only g b, resolve_bothTied g b, resolve_bothTied 32640 b⟩

end Sys2Proof.Machine
end

section
/-! PROOFS. Encoding (spec/30_encoding.md sections 1 to 3): what each word decodes to, and that the encoder and the
opcode table agree with the decoder. -/

namespace Sys2Proof

/-! ### A command word is its selector and its operand -/

theorem commandWord_fields (w : CommandWord) : commandWord (opField w) (argField w) = w := by
  apply BitVec.eq_of_toNat_eq
  rw [commandWord_toNat, opField_toNat, argField_toNat]
  omega

theorem opField_eq_ofNat (w : CommandWord) : opField w = BitVec.ofNat 4 (w.toNat / 65536) := by
  rw [← opField_toNat, BitVec.ofNat_toNat, BitVec.setWidth_eq]

theorem argField_eq_ofNat (w : CommandWord) : argField w = BitVec.ofNat 16 (w.toNat % 65536) := by
  rw [← argField_toNat, BitVec.ofNat_toNat, BitVec.setWidth_eq]

theorem opField_eq_iff (w : CommandWord) (op : Opcode) : opField w = op ↔ w.toNat / 65536 = op.toNat := by
  rw [← BitVec.toNat_inj, opField_toNat]

/-! ### The operand of CONFIGURE -/

/-- The counter mode that an operand of CONFIGURE selects (R73). -/
def argCntMode (arg : Arg) : CntMode := cntModeOfBit (arg.getLsbD 8)

/-- The top value that an operand of CONFIGURE carries (R73). -/
def argTop (arg : Arg) : Duty := arg.extractLsb' 0 8

theorem argTop_toNat (arg : Arg) : (argTop arg).toNat = arg.toNat % 256 := by
  simp [argTop]

theorem getLsbD_eight_eq_decide (arg : Arg) : arg.getLsbD 8 = decide (arg.toNat / 256 % 2 = 1) := by
  rw [← BitVec.testBit_toNat, Nat.testBit_eq_decide_div_mod_eq]

theorem argCntMode_eq (arg : Arg) :
    argCntMode arg = if arg.toNat / 256 % 2 = 0 then .phaseCorrect else .fast := by
  rw [argCntMode, getLsbD_eight_eq_decide]
  rcases Nat.mod_two_eq_zero_or_one (arg.toNat / 256) with h | h <;> simp [h, cntModeOfBit]

@[simp] theorem cntModeBit_cntModeOfBit (b : Bool) : cntModeBit (cntModeOfBit b) = b := by
  cases b <;> rfl

@[simp] theorem argTop_configureArg (top : Duty) (cmode : CntMode) : argTop (configureArg top cmode) = top := by
  have := top.isLt
  apply BitVec.eq_of_toNat_eq
  rw [argTop_toNat, configureArg_toNat]
  omega

@[simp] theorem argCntMode_configureArg (top : Duty) (cmode : CntMode) :
    argCntMode (configureArg top cmode) = cmode := by
  have := top.isLt
  rw [argCntMode_eq, configureArg_toNat]
  cases cmode
  case phaseCorrect => exact if_pos (by simp only [cntModeBit, Bool.toNat_false]; omega)
  case fast => exact if_neg (by simp only [cntModeBit, Bool.toNat_true]; omega)

/-- Read and written again, an operand of CONFIGURE loses the seven bits that R80 ignores. -/
theorem configureArg_fields (arg : Arg) : configureArg (argTop arg) (argCntMode arg) = arg &&& 0x1FF := by
  apply BitVec.eq_of_toNat_eq
  rw [configureArg_toNat, argTop_toNat, argCntMode, cntModeBit_cntModeOfBit, getLsbD_eight_eq_decide, BitVec.toNat_and,
    show (0x1FF : Arg).toNat = 2 ^ 9 - 1 by decide, Nat.and_two_pow_sub_one_eq_mod]
  rcases Nat.mod_two_eq_zero_or_one (arg.toNat / 256) with h | h
  · simp only [h, Nat.zero_ne_one, decide_false, Bool.toNat_false]
    omega
  · simp only [h, decide_true, Bool.toNat_true]
    omega

/-! ### The decoder, one equation per selector -/

@[simp] theorem decode_command (w : CommandWord) : decode (.command w) = decodeCommand w := rfl

/-- The four selectors of R71, and the reserved ones (R79). -/
theorem selector_cases (w : CommandWord) :
    w.toNat / 65536 = 1 ∨ w.toNat / 65536 = 2 ∨ w.toNat / 65536 = 3 ∨ w.toNat / 65536 = 4 ∨
      (w.toNat / 65536 = 0 ∨ 5 ≤ w.toNat / 65536) := by
  omega

theorem decodeCommand_configure (w : CommandWord) (h : w.toNat / 65536 = 1) :
    decodeCommand w = .ok (.configure (argTop (argField w)) (argCntMode (argField w))) := by
  simp [decodeCommand, opField_toNat, h, argTop, argCntMode]

theorem decodeCommand_setChannelMode (w : CommandWord) (h : w.toNat / 65536 = 2) :
    decodeCommand w = .ok (.setChannelMode (argField w)) := by
  simp [decodeCommand, opField_toNat, h]

theorem decodeCommand_setRamp (w : CommandWord) (h : w.toNat / 65536 = 3) :
    decodeCommand w = .ok (.setRamp (argField w)) := by
  simp [decodeCommand, opField_toNat, h]

theorem decodeCommand_setBlend (w : CommandWord) (h : w.toNat / 65536 = 4) :
    decodeCommand w = .ok (.setBlend (argField w)) := by
  simp [decodeCommand, opField_toNat, h]

theorem decodeCommand_reserved (w : CommandWord) (h : w.toNat / 65536 = 0 ∨ 5 ≤ w.toNat / 65536) :
    decodeCommand w = .error (.reservedOpcode (opField w)) := by
  unfold decodeCommand
  rw [opField_toNat]
  split
  case h_5 => rfl
  all_goals omega

/-- What a command word that decodes can be: a word of one of the four selectors. -/
theorem decodeCommand_ok_cases (w : CommandWord) (i : Instr) (h : decodeCommand w = .ok i) :
    (w.toNat / 65536 = 1 ∧ i = .configure (argTop (argField w)) (argCntMode (argField w))) ∨
    (w.toNat / 65536 = 2 ∧ i = .setChannelMode (argField w)) ∨
    (w.toNat / 65536 = 3 ∧ i = .setRamp (argField w)) ∨
    (w.toNat / 65536 = 4 ∧ i = .setBlend (argField w)) := by
  rcases selector_cases w with hop | hop | hop | hop | hop
  · rw [decodeCommand_configure w hop] at h
    cases h
    exact .inl ⟨hop, rfl⟩
  · rw [decodeCommand_setChannelMode w hop] at h
    cases h
    exact .inr (.inl ⟨hop, rfl⟩)
  · rw [decodeCommand_setRamp w hop] at h
    cases h
    exact .inr (.inr (.inl ⟨hop, rfl⟩))
  · rw [decodeCommand_setBlend w hop] at h
    cases h
    exact .inr (.inr (.inr ⟨hop, rfl⟩))
  · rw [decodeCommand_reserved w hop] at h
    cases h

/-- RESET comes by the strobe pins only (R77). -/
theorem decodeCommand_ne_reset (w : CommandWord) : decodeCommand w ≠ .ok .reset := by
  intro h
  rcases decodeCommand_ok_cases w _ h with ⟨_, hi⟩ | ⟨_, hi⟩ | ⟨_, hi⟩ | ⟨_, hi⟩ <;> cases hi

/-- Settles O1: the decoder's equations, with the fields read off the word's number. -/
theorem commandWordDecodesByOpMap : Obligations.CommandWordDecodesByOpMap := by
  intro w
  refine ⟨fun h => ?configure, fun h => ?setChannelMode, fun h => ?setRamp, fun h => ?setBlend, fun h => ?reserved⟩
  case configure =>
    have htop : argTop (argField w) = BitVec.ofNat 8 (w.toNat % 256) := by
      apply BitVec.eq_of_toNat_eq
      rw [argTop_toNat, argField_toNat, BitVec.toNat_ofNat]
      omega
    have hbit : w.toNat % 65536 / 256 % 2 = w.toNat / 256 % 2 := by omega
    rw [decode_command, decodeCommand_configure w h, htop, argCntMode_eq, argField_toNat, hbit]
  case setChannelMode => rw [decode_command, decodeCommand_setChannelMode w h, argField_eq_ofNat]
  case setRamp => rw [decode_command, decodeCommand_setRamp w h, argField_eq_ofNat]
  case setBlend => rw [decode_command, decodeCommand_setBlend w h, argField_eq_ofNat]
  case reserved => rw [decode_command, decodeCommand_reserved w h, opField_eq_ofNat]

/-! ### Decoding and encoding undo each other -/

theorem commandWord_div (op : Opcode) (arg : Arg) : (commandWord op arg).toNat / 65536 = op.toNat := by
  rw [← opField_toNat, opField_commandWord]

@[simp] theorem decode_encode (i : Instr) : decode (encode i) = .ok i := by
  cases i with
  | configure top cmode =>
    rw [encode, decode_command, decodeCommand_configure _ (commandWord_div _ _), argField_commandWord, argTop_configureArg,
      argCntMode_configureArg]
  | setChannelMode m =>
    rw [encode, decode_command, decodeCommand_setChannelMode _ (commandWord_div _ _), argField_commandWord]
  | setRamp level => rw [encode, decode_command, decodeCommand_setRamp _ (commandWord_div _ _), argField_commandWord]
  | setBlend ratio => rw [encode, decode_command, decodeCommand_setBlend _ (commandWord_div _ _), argField_commandWord]
  | reset => rfl
  | tick => rfl

/-- Settles O3: one case per operation; a command's selector picks its equation of the decoder, and its fields are read
back. -/
theorem decodeOfEncodeIsTheInstruction : Obligations.DecodeOfEncodeIsTheInstruction := fun i _ => decode_encode i

/-- The mask of O4 acts on the operand alone. -/
theorem commandWord_and_ignored (op : Opcode) (arg : Arg) :
    commandWord op arg &&& 0xF01FF = commandWord op (arg &&& 0x1FF) := by
  have hmask : (0xF01FF : CommandWord) = BitVec.allOnes 4 ++ (0x1FF : Arg) := by decide
  rw [commandWord, hmask, BitVec.and_append, BitVec.and_allOnes, commandWord]

/-- A word with the selector `op` is built from `op` and the word's own operand. -/
theorem commandWord_of_op (w : CommandWord) (op : Opcode) (h : w.toNat / 65536 = op.toNat) :
    commandWord op (argField w) = w := by
  rw [← (opField_eq_iff w op).mpr h, commandWord_fields]

theorem encode_of_decodeCommand (w : CommandWord) (i : Instr) (h : decodeCommand w = .ok i) :
    encode i = .command (if w.toNat / 65536 = 1 then w &&& 0xF01FF else w) := by
  rcases decodeCommand_ok_cases w i h with ⟨hop, rfl⟩ | ⟨hop, rfl⟩ | ⟨hop, rfl⟩ | ⟨hop, rfl⟩
  · rw [if_pos hop, encode, configureArg_fields, ← commandWord_and_ignored, commandWord_of_op w 1 hop]
  · rw [if_neg (by omega), encode, commandWord_of_op w 2 hop]
  · rw [if_neg (by omega), encode, commandWord_of_op w 3 hop]
  · rw [if_neg (by omega), encode, commandWord_of_op w 4 hop]

/-- What strobe pins that decode can be (R77). -/
theorem decodeStrobe_ok_cases (pins : StrobePins) (i : Instr) (h : decodeStrobe pins = .ok i) :
    (pins.getLsbD 1 = true ∧ i = .reset) ∨ (pins = 0b01 ∧ i = .tick) := by
  have hpins : ∀ q : StrobePins, q.getLsbD 1 = false → q.getLsbD 0 = true → q = 0b01 := by decide
  unfold decodeStrobe at h
  split at h
  case isTrue hrst =>
    cases h
    exact .inl ⟨hrst, rfl⟩
  case isFalse hrst =>
    split at h
    · cases h
      exact .inr ⟨hpins pins (by simpa using hrst) ‹_›, rfl⟩
    · cases h

theorem encode_of_decodeStrobe (pins : StrobePins) (i : Instr) (h : decodeStrobe pins = .ok i) :
    encode i = .strobe (if pins.getLsbD 1 then pins &&& 0b10 else pins) := by
  rcases decodeStrobe_ok_cases pins i h with ⟨hrst, rfl⟩ | ⟨rfl, rfl⟩
  · have hmask : ∀ q : StrobePins, q.getLsbD 1 = true → q &&& 0b10 = 0b10 := by decide
    rw [if_pos hrst, hmask pins hrst, encode]
  · rfl

/-- Settles O4: what decodes has one of the known forms, and each form is written back with its ignored bits zero. -/
theorem encodeOfDecodeClearsIgnoredBits : Obligations.EncodeOfDecodeClearsIgnoredBits :=
  ⟨encode_of_decodeCommand, encode_of_decodeStrobe⟩

/-! ### The opcode table -/

/-- The mnemonic of the operation that a port value decodes to, if it decodes. -/
def decodedMnemonic (p : PortWord) : Option String := (decode p).toOption.map mnemonicOf

theorem decodedMnemonic_eq_some_iff (p : PortWord) (name : String) :
    decodedMnemonic p = some name ↔ ∃ i, decode p = .ok i ∧ mnemonicOf i = name := by
  unfold decodedMnemonic
  cases decode p <;> simp [Except.toOption]

/-- The mnemonic of a command word is that of its selector: the operand only fills in the operation's operand. -/
theorem decodedMnemonic_command (w : CommandWord) :
    decodedMnemonic (.command w) = decodedMnemonic (.command (commandWord (opField w) 0)) := by
  have hop := commandWord_div (opField w) 0
  rw [opField_toNat] at hop
  simp only [decodedMnemonic, decode_command]
  rcases selector_cases w with h | h | h | h | h
  · rw [decodeCommand_configure w h, decodeCommand_configure _ (hop.trans h)]; rfl
  · rw [decodeCommand_setChannelMode w h, decodeCommand_setChannelMode _ (hop.trans h)]; rfl
  · rw [decodeCommand_setRamp w h, decodeCommand_setRamp _ (hop.trans h)]; rfl
  · rw [decodeCommand_setBlend w h, decodeCommand_setBlend _ (hop.trans h)]; rfl
  · rw [decodeCommand_reserved w h, decodeCommand_reserved _ (by rwa [hop])]; rfl

/-- The fixed bits of a row of format CW are bits of the selector. -/
theorem admits_command (r : OpcodeRow) (hr : r ∈ opcodeTable) (w : CommandWord) :
    r.admits (.command w) = r.admits (.command (commandWord (opField w) 0)) := by
  have hmask : w &&& 0xF0000 = commandWord (opField w) 0 &&& 0xF0000 := by
    rw [commandWord_and_mask, ← commandWord_and_mask (opField w) (argField w), commandWord_fields]
  simp only [opcodeTable, List.mem_cons, List.not_mem_nil, or_false] at hr
  rcases hr with rfl | rfl | rfl | rfl | rfl | rfl <;> simp only [OpcodeRow.admits, hmask]

/-- Table and decoder agree on the 16 selectors. -/
theorem admits_selector_iff : ∀ r ∈ opcodeTable, ∀ op : Opcode,
    (r.admits (.command (commandWord op 0)) = true ↔
      decodedMnemonic (.command (commandWord op 0)) = some r.mnemonic) := by
  decide

/-- Table and decoder agree on the 4 values of the strobe pins. -/
theorem admits_strobe_iff : ∀ r ∈ opcodeTable, ∀ pins : StrobePins,
    (r.admits (.strobe pins) = true ↔ decodedMnemonic (.strobe pins) = some r.mnemonic) := by
  decide

/-- Settles O5: on a command word both sides depend on the selector alone, so 16 selectors and 4 pin values remain. -/
theorem decodeAgreesWithOpcodeTable : Obligations.DecodeAgreesWithOpcodeTable := by
  intro p r hr
  rw [← decodedMnemonic_eq_some_iff]
  cases p with
  | command w =>
    rw [admits_command r hr, decodedMnemonic_command]
    exact admits_selector_iff r hr (opField w)
  | strobe pins => exact admits_strobe_iff r hr pins

/-- Settles O2: the three branches of the decoder on the four pin values. -/
theorem strobePinsDecodeToResetOrTick : Obligations.StrobePinsDecodeToResetOrTick := ⟨rfl, rfl, rfl, rfl⟩

/-- Settles O6: each word evaluated. -/
theorem workedEncodingsDecode : Obligations.WorkedEncodingsDecode :=
  ⟨rfl, rfl, rfl, rfl, rfl, rfl, rfl, rfl, rfl, rfl, rfl, rfl⟩

end Sys2Proof
end

section
/-! PROOFS. The events that assembler lines present (spec/30_encoding.md section 4, R82, R83). -/

namespace Sys2Proof.Machine

/-- The edge a line stands for has the line's operation as its one event. -/
@[simp] theorem edgeEvents_eventEdge (i : Instr) : edgeEvents (eventEdge i) = [i] := by
  rw [eventEdge, edgeEvents_ofPortWord, decode_encode, eventOf]

theorem flatMap_edgeEvents_replicate (n : Nat) (i : Instr) :
    (List.replicate n (eventEdge i)).flatMap edgeEvents = List.replicate n i := by
  induction n with
  | zero => rfl
  | succ n ih =>
    rw [List.replicate_succ, List.flatMap_cons, ih, edgeEvents_eventEdge, List.replicate_succ, List.singleton_append]

/-- Settles O8: each line's edge has the line's operation as its event, and an operand that fits its field is sent as it
is. -/
theorem assemblerLinesPresentTheirEvents : Obligations.AssemblerLinesPresentTheirEvents := by
  refine ⟨?reset, ?tick, fun n => ?ticks, fun top cmode => ?configure, fun m => ?modeName, fun m => ?modeNumber,
    fun level => ?setRamp, fun ratio => ?setBlend, fun w => ?word⟩
  case ticks => exact flatMap_edgeEvents_replicate n .tick
  case modeName =>
    refine ⟨BitVec.ofNat 16 (chanModeCode m).toNat, ?_, ?_⟩
    · cases m <;> rfl
    · simp [lineEdges, modeArgCode]
  case word => simp [lineEdges, edgeEvents_ofPortWord]
  all_goals simp [lineEdges, modeArgCode]

end Sys2Proof.Machine
end

section
/-! PROOFS. The edge, the step and runs (spec/20_memory.md sections 1, 3, 4): which events an edge brings, what a step does
with them, and how a property or a relation that every operation keeps carries over to runs. -/

namespace Sys2Proof.Machine

/-! ### The meanings, up to the edges that wait -/

/-- CONFIGURE does nothing, or it is the one write of CounterConfig (R90, R91). -/
theorem exec_configure_cases (top : Duty) (cmode : CntMode) (s t : State) (h : exec (.configure top cmode) s = .next t) :
    (s.cfgLocked = true ∧ t = s) ∨ (s.cfgLocked = false ∧ t = s.lockConfig top cmode) := by
  cases hl : s.cfgLocked
  · rw [exec_configure_unlocked _ _ _ hl] at h
    cases h
    exact .inr ⟨rfl, rfl⟩
  · rw [exec_configure_locked _ _ _ hl] at h
    cases h
    exact .inl ⟨rfl, rfl⟩

/-- No operation reads or writes the edges that wait. -/
theorem exec_withInputs (i : Instr) (s t : State) (es : List Edge) (h : exec i s = .next t) :
    exec i (s.withInputs es) = .next (t.withInputs es) := by
  cases i
  case configure top cmode =>
    rcases exec_configure_cases top cmode s t h with ⟨hl, rfl⟩ | ⟨hl, rfl⟩
    · exact exec_configure_locked _ _ _ hl
    · exact exec_configure_unlocked _ _ _ hl
  all_goals
    cases h
    rfl

/-- A property that the events of a sequence keep is kept by the sequence. -/
theorem runEvents_keeps_of_mem (P : State → Prop) (es : List Instr)
    (hP : ∀ i ∈ es, ∀ s t, exec i s = .next t → P s → P t)
    (s t : State) (h : runEvents es s = .next t) (hs : P s) : P t := by
  induction es generalizing s with
  | nil => cases h; exact hs
  | cons i rest ih =>
    obtain ⟨u, hu⟩ := exec_next i s
    rw [runEvents_cons_next i rest s u hu] at h
    exact ih (fun j hj => hP j (List.mem_cons_of_mem i hj)) u h (hP i List.mem_cons_self s u hu hs)

/-- Events consume no edge. -/
theorem runEvents_inputs (es : List Instr) (s t : State) (h : runEvents es s = .next t) : t.inputs = s.inputs :=
  runEvents_keeps (fun u => u.inputs = s.inputs)
    (fun i u v huv hu => (exec_surroundings i u v huv).1.trans hu) es s t h rfl

/-! ### The events of an edge -/

theorem eventOf_error (r : NoOperation) : eventOf (.error r) = [] := rfl

/-- An edge brings RESET by `rst`, TICK by `ovf`, and any other operation by a valid command without `rst` (R52). -/
theorem mem_edgeEvents (e : Edge) (i : Instr) (h : i ∈ edgeEvents e) :
    (e.rst = true ∧ i = .reset) ∨ (e.ovf = true ∧ i = .tick) ∨
      (e.rst = false ∧ e.cmdValid = true ∧ decodeCommand e.cmdWord = .ok i) := by
  cases hr : e.rst
  case true =>
    rw [edgeEvents_rst e hr, List.mem_singleton] at h
    exact .inl ⟨rfl, h⟩
  case false =>
    rw [edgeEvents_no_rst e hr, List.mem_append] at h
    rcases h with h | h
    · cases hv : e.cmdValid <;> simp only [hv, if_true, if_false, Bool.false_eq_true, List.not_mem_nil] at h
      cases hd : decodeCommand e.cmdWord with
      | ok j =>
        rw [hd, eventOf, List.mem_singleton] at h
        exact .inr (.inr ⟨rfl, rfl, by rw [h]⟩)
      | error r => simp [hd, eventOf_error] at h
    · cases ho : e.ovf <;> simp only [ho, if_true, if_false, Bool.false_eq_true, List.not_mem_nil] at h
      exact .inr (.inl ⟨rfl, List.mem_singleton.mp h⟩)

@[simp] theorem edgeEvents_tickEdge : edgeEvents tickEdge = [.tick] := by decide

/-! ### One step -/

/-- The step on an edge with one port value is the value's operation. -/
theorem step_ofPortWord (s : State) (p : PortWord) (rest : List Edge) (i : Instr)
    (hs : s.inputs = Edge.ofPortWord p :: rest) (hp : decode p = .ok i) : step s = exec i (s.withInputs rest) := by
  rw [step_cons s _ rest hs, edgeEvents_ofPortWord, hp, eventOf, runEvents_singleton]

/-- The step on an edge with only `ovf` is TICK. -/
theorem step_tickEdge (s : State) (rest : List Edge) :
    step (s.withInputs (tickEdge :: rest)) = .next (s.withInputs rest).tick := by
  rw [step_cons _ tickEdge rest rfl, edgeEvents_tickEdge, runEvents_singleton, exec_tick, State.withInputs_withInputs]

/-- Settles O9: the edge's one event is the decoded operation. -/
theorem stepRunsTheDecodedOperation : Obligations.StepRunsTheDecodedOperation := fun s p rest i hs hp =>
  step_ofPortWord s p rest i hs hp

theorem decodeTableWord_eq_some_iff (nbits w : Nat) (i : Instr) :
    decodeTableWord nbits w = some i ↔ decode (portWordOfBits nbits w) = .ok i := by
  unfold decodeTableWord
  cases decode (portWordOfBits nbits w) <;> simp

/-- Settles O7: the placed word is the oldest edge, and consuming it gives back the edges that waited. -/
theorem placedTableWordRunsNext : Obligations.PlacedTableWordRunsNext := by
  intro s nbits w i h
  rw [step_ofPortWord _ _ s.inputs i rfl ((decodeTableWord_eq_some_iff nbits w i).mp h), State.withFetchWord,
    State.withInputs_withInputs, State.withInputs_self]

/-- Settles O11: with `rst` the edge's one event is RESET. -/
theorem resetOverridesTheOtherInputs : Obligations.ResetOverridesTheOtherInputs := by
  intro s e rest hrst hs
  rw [step_cons s e rest hs, edgeEvents_rst e hrst, runEvents_singleton]

/-- Settles O12: a reserved word is no event, so at most the tick of the edge is left. -/
theorem reservedWordIsIgnored : Obligations.ReservedWordIsIgnored := by
  intro s w overflow rest hop hs
  rw [step_cons s _ rest hs, edgeEvents_no_rst _ rfl, decodeCommand_reserved w hop, eventOf_error]
  cases overflow
  case false => rfl
  case true => exact runEvents_singleton .tick _

/-- Settles O13: the edge has no event, and the outputs are copies of registers, which consuming an edge does not touch. -/
theorem idleEdgeChangesNothing : Obligations.IdleEdgeChangesNothing := by
  intro s w rest hs
  refine ⟨s.withInputs rest, ?_, rfl, rfl⟩
  rw [step_cons s _ rest hs, edgeEvents_no_rst _ rfl]
  rfl

/-- Settles O14: the ports are idle. -/
theorem stepWithNothingWaitingIsIdle : Obligations.StepWithNothingWaitingIsIdle := step_nil

/-! ### Runs -/

@[simp] theorem runsTo_zero_iff (s t : State) : RunsTo 0 s t ↔ s = t := by
  rw [RunsTo, run_zero]
  exact ⟨Host.Outcome.next.inj, congrArg Host.Outcome.next⟩

theorem runsTo_succ (n : Nat) (s t u : State) (hstep : step s = .next t) (hrun : RunsTo n t u) : RunsTo (n + 1) s u :=
  (runsTo_succ_iff n s u).mpr ⟨t, hstep, hrun⟩

theorem runsTo_next (n : Nat) (s : State) : ∃ t, RunsTo n s t := by
  induction n generalizing s with
  | zero => exact ⟨s, rfl⟩
  | succ n ih =>
    obtain ⟨t, ht⟩ := step_next s
    obtain ⟨u, hu⟩ := ih t
    exact ⟨u, runsTo_succ n s t u ht hu⟩

/-- Settles O15: every step has a next state, so runs of every length do. -/
theorem everyRunGoesOn : Obligations.EveryRunGoesOn := runsTo_next

/-- A property of the registers that every event in a set keeps holds after every run whose waiting edges bring only
events of that set. -/
theorem runsTo_keeps (ok : Instr → Prop) (P : State → Prop) (hIn : ∀ s es, P s → P (s.withInputs es))
    (hP : ∀ i, ok i → ∀ s t, exec i s = .next t → P s → P t) (n : Nat) (s t : State)
    (hok : ∀ e ∈ s.inputs, ∀ i ∈ edgeEvents e, ok i) (hrun : RunsTo n s t) (hs : P s) : P t := by
  induction n generalizing s with
  | zero =>
    rw [runsTo_zero_iff] at hrun
    exact hrun ▸ hs
  | succ n ih =>
    obtain ⟨u, hstep, hrun⟩ := (runsTo_succ_iff n s t).mp hrun
    cases hes : s.inputs with
    | nil =>
      rw [step_nil s hes] at hstep
      cases hstep
      exact ih s hok hrun hs
    | cons e rest =>
      rw [hes] at hok
      rw [step_cons s e rest hes] at hstep
      have hrest : u.inputs = rest := runEvents_inputs _ _ _ hstep
      have hu : P u := runEvents_keeps_of_mem P _ (fun i hi => hP i (hok e List.mem_cons_self i hi)) _ u hstep
        (hIn s rest hs)
      refine ih u ?_ hrun hu
      rw [hrest]
      exact fun e' he' => hok e' (List.mem_cons_of_mem e he')

/-- A relation of two states that have the same edges waiting, kept by every operation and by the consuming of edges. -/
structure KeptByOperations (R : State → State → Prop) : Prop where
  /-- Both states wait for the same edges. -/
  inputs : ∀ {s t}, R s t → t.inputs = s.inputs
  /-- With other edges waiting the states are still related. -/
  withInputs : ∀ {s t} (es : List Edge), R s t → R (s.withInputs es) (t.withInputs es)
  /-- An operation on both leaves related states. -/
  exec : ∀ {s t} (i : Instr), R s t → ∃ s' t', exec i s = .next s' ∧ exec i t = .next t' ∧ R s' t'

theorem KeptByOperations.runEvents {R : State → State → Prop} (hR : KeptByOperations R) (es : List Instr) {s t : State}
    (h : R s t) : ∃ s' t', runEvents es s = .next s' ∧ runEvents es t = .next t' ∧ R s' t' := by
  induction es generalizing s t with
  | nil => exact ⟨s, t, rfl, rfl, h⟩
  | cons i rest ih =>
    obtain ⟨s', t', hs, ht, h'⟩ := hR.exec i h
    rw [runEvents_cons_next i rest s s' hs, runEvents_cons_next i rest t t' ht]
    exact ih h'

theorem KeptByOperations.step {R : State → State → Prop} (hR : KeptByOperations R) {s t : State} (h : R s t) :
    ∃ s' t', step s = .next s' ∧ step t = .next t' ∧ R s' t' := by
  cases hes : s.inputs with
  | nil =>
    rw [step_nil s hes, step_nil t ((hR.inputs h).trans hes)]
    exact ⟨s, t, rfl, rfl, h⟩
  | cons e rest =>
    rw [step_cons s e rest hes, step_cons t e rest ((hR.inputs h).trans hes)]
    exact hR.runEvents _ (hR.withInputs rest h)

/-- Such a relation is kept by every run of the two. -/
theorem KeptByOperations.runsTo {R : State → State → Prop} (hR : KeptByOperations R) (n : Nat) {s t : State}
    (h : R s t) : ∃ s' t', RunsTo n s s' ∧ RunsTo n t t' ∧ R s' t' := by
  induction n generalizing s t with
  | zero => exact ⟨s, t, rfl, rfl, h⟩
  | succ n ih =>
    obtain ⟨s', t', hs, ht, h'⟩ := hR.step h
    obtain ⟨s'', t'', hs', ht', h''⟩ := ih h'
    exact ⟨s'', t'', runsTo_succ n s s' s'' hs hs', runsTo_succ n t t' t'' ht ht', h''⟩

/-- Settles O10: the edge's two events run one after the other; on two edges the command's edge only leaves the tick's edge
waiting, which the command does not touch. -/
theorem commandTakesEffectBeforeTick : Obligations.CommandTakesEffectBeforeTick := by
  intro s w rest i hdec
  obtain ⟨t, ht⟩ := exec_next i (s.withInputs rest)
  have hevents : edgeEvents { rst := false, cmdValid := true, cmdWord := w, ovf := true } = [i, .tick] := by
    rw [edgeEvents_no_rst _ rfl]
    simp [(decode_command w).symm.trans hdec, eventOf]
  refine ⟨t, t.tick, ht, exec_tick t, ?oneEdge, ?twoEdges⟩
  case oneEdge =>
    rw [step_cons _ _ rest rfl, hevents, State.withInputs_withInputs, runEvents_cons_next _ _ _ t ht,
      runEvents_singleton, exec_tick]
  case twoEdges =>
    have hcommand : step (s.withInputs (Edge.ofPortWord (.command w) :: tickEdge :: rest)) =
        .next (t.withInputs (tickEdge :: rest)) := by
      rw [step_ofPortWord _ _ (tickEdge :: rest) i rfl hdec, State.withInputs_withInputs]
      exact exec_withInputs i (s.withInputs rest) t (tickEdge :: rest) ht
    have hinputs : t.withInputs rest = t := by
      rw [← State.inputs_withInputs s rest, ← (exec_surroundings i _ t ht).1, State.withInputs_self]
    have htick : step (t.withInputs (tickEdge :: rest)) = .next t.tick := by
      rw [step_tickEdge, hinputs]
    exact runsTo_succ 1 _ _ _ hcommand (runsTo_succ 0 _ _ _ htick rfl)

/-! ### Ticks on edges of their own -/

/-- The first of n + 1 TICKs taken apart from the others. -/
theorem State.ticked_succ_eq_ticked_tick (s : State) (n : Nat) : s.ticked (n + 1) = s.tick.ticked n := by
  induction n with
  | zero => rfl
  | succ n ih => rw [State.ticked, ih, State.ticked]

/-- Settles O44: by induction on the number of edges, from every state. -/
theorem overflowEdgesRunAsTicks : Obligations.OverflowEdgesRunAsTicks := by
  intro n
  induction n with
  | zero => exact fun s rest => rfl
  | succ n ih =>
    intro s rest
    rw [State.ticked_succ_eq_ticked_tick, List.replicate_succ, List.cons_append]
    exact runsTo_succ n _ _ _ (step_tickEdge s _) (ih s.tick rest)

end Sys2Proof.Machine
end

section
/-! PROOFS. The arithmetic of RESOLVE (spec/43_mode_resolver.md R143 to R147, R153): the rounding, the symmetry, the sweep
and the sums of the two targets. -/

namespace Sys2Proof.Machine

/-! ### MANUAL_BLEND -/

theorem resolve_manualBlend_toNat (g : RampLevel) (b : BlendRatio) :
    (resolve g .manualBlend b).1.toNat = g.toNat - (b.toNat * g.toNat + 127) / 255 ∧
      (resolve g .manualBlend b).2.toNat = (b.toNat * g.toNat + 127) / 255 := blend2_toNat g b

theorem blendRatio_le (b : BlendRatio) : b.toNat ≤ 255 := by
  have := b.isLt
  omega

/-- The two targets of BLEND2 sum to the level, whatever the ratio (R144 a). -/
theorem blend2_sum (g : RampLevel) (b : BlendRatio) : (blend2 g b).1.toNat + (blend2 g b).2.toNat = g.toNat := by
  have hle := blendShare_le g.toNat b.toNat (blendRatio_le b)
  rw [(blend2_toNat g b).1, (blend2_toNat g b).2]
  omega

/-- Settles O29: the quotient by 255 of the product plus 127 is the nearest integer, 255 being odd. -/
theorem manualBlendRoundsToNearest : Obligations.ManualBlendRoundsToNearest := by
  intro g b _
  have hshare := (resolve_manualBlend_toNat g b).2
  refine ⟨hshare, blend2_sum g b, ?above, ?below, resolve_manualBlend_zero g, resolve_manualBlend_full g⟩
  all_goals
    rw [hshare]
    omega

/-- Channel 2's share grows with the product of ratio and level. -/
theorem blendShare_mono {p q : Nat} (h : p ≤ q) : (p + 127) / 255 ≤ (q + 127) / 255 :=
  Nat.div_le_div_right (Nat.add_le_add_right h 127)

/-- Settles O30: the product of ratio and level is monotone in both. -/
theorem blendShareIsMonotone : Obligations.BlendShareIsMonotone := by
  intro g g' b b' hg _ hb
  rw [(resolve_manualBlend_toNat g b).2, (resolve_manualBlend_toNat g' b').2]
  exact blendShare_mono (Nat.mul_le_mul hb hg)

/-- The mirrored ratio gives channel 2 what the ratio leaves to channel 1: no product is halfway between two multiples of
255. -/
theorem blendShare_mirror (g b : Nat) (hb : b ≤ 255) : ((255 - b) * g + 127) / 255 = g - (b * g + 127) / 255 := by
  have hle : b * g ≤ 255 * g := Nat.mul_le_mul_right g hb
  rw [Nat.sub_mul]
  omega

/-- Settles O31: channel 2's share at the mirrored ratio is channel 1's, and channel 1 gets the rest. -/
theorem blendIsMirrorSymmetric : Obligations.BlendIsMirrorSymmetric := by
  intro g b _
  have hb := blendRatio_le b
  have hmirror : (255 - b).toNat = 255 - b.toNat := BitVec.toNat_sub_of_le (by bv_omega)
  have hle := blendShare_le g.toNat b.toNat hb
  obtain ⟨h1, h2⟩ := resolve_manualBlend_toNat g b
  obtain ⟨hm1, hm2⟩ := resolve_manualBlend_toNat g (255 - b)
  rw [hmirror, blendShare_mirror g.toNat b.toNat hb] at hm1 hm2
  apply targets_ext
  · rw [hm1, h2]
    omega
  · rw [hm2, h1]

/-! ### AUTO_BLEND -/

theorem resolve_autoBlend_toNat (g : RampLevel) (b : BlendRatio) :
    (resolve g .autoBlend b).1.toNat = g.toNat - (g.toNat / 128 * g.toNat + 127) / 255 ∧
      (resolve g .autoBlend b).2.toNat = (g.toNat / 128 * g.toNat + 127) / 255 := by
  rw [← autoBlendRatio_toNat]
  exact blend2_toNat g (autoBlendRatio g)

/-- Settles O32: `g * 255 / 32640` is `g / 128` because 32640 is 128 * 255; the two ends are the ends of MANUAL_BLEND. -/
theorem autoBlendIsLinearInTheLevel : Obligations.AutoBlendIsLinearInTheLevel := by
  intro g b _
  refine ⟨autoBlendRatio_toNat g, ?ratio, rfl, fun h => ?bottom, fun h => ?top⟩
  case ratio =>
    rw [autoBlendRatio_toNat]
    omega
  case bottom =>
    obtain rfl : g = 0 := BitVec.eq_of_toNat_eq h
    exact resolve_manualBlend_zero 0
  case top =>
    obtain rfl : g = 32640 := BitVec.eq_of_toNat_eq h
    exact resolve_manualBlend_full 32640

/-- The most that the ratio of AUTO_BLEND leaves to channel 1, in units of 1/255: at the ratio 127. -/
theorem autoWarmShare_le (a : Nat) (ha : a ≤ 255) : (255 - a) * (128 * a + 127) ≤ 2097024 := by
  have hint : (255 - (a : ℤ)) * (128 * a + 127) ≤ 2097024 := by
    nlinarith [Int.le_self_sq ((a : ℤ) - 127), sq_nonneg ((a : ℤ) - 127)]
  zify [ha]
  exact hint

/-- The warm target of AUTO_BLEND never exceeds 8224 (R146). -/
theorem autoWarm_le (g : Nat) (hg : g ≤ 32640) : g - (g / 128 * g + 127) / 255 ≤ 8224 := by
  have ha : g / 128 ≤ 255 := by omega
  have hcap : (255 - g / 128) * g ≤ 2097024 :=
    (Nat.mul_le_mul_left _ (by omega)).trans (autoWarmShare_le (g / 128) ha)
  rw [Nat.sub_mul] at hcap
  omega

/-- From one level to the next the product of AUTO_BLEND grows by at most 129 * 255, and by that much only where the ratio
steps. -/
theorem autoProduct_succ_le (g : Nat) (hg : g + 1 ≤ 32640) : (g + 1) / 128 * (g + 1) ≤ g / 128 * g + 32895 := by
  by_cases hstep : (g + 1) / 128 = g / 128
  · rw [hstep, Nat.mul_succ]
    omega
  · have hnext : (g + 1) / 128 = g / 128 + 1 := by omega
    have hlevel : g = 128 * (g / 128) + 127 := by omega
    have ha : g / 128 ≤ 254 := by omega
    rw [hnext]
    generalize g / 128 = a at hlevel ha
    subst hlevel
    nlinarith

/-- Settles O33: the cool target follows the product, and the warm one is the level less the cool one. -/
theorem autoBlendSweepShape : Obligations.AutoBlendSweepShape := by
  refine ⟨fun g g' b hg _ => ?coolRises, fun g b hg => ?warmCap, fun b => ?warmPeak, fun g g' b hsucc hg' => ?warmDrop⟩
  case coolRises =>
    rw [(resolve_autoBlend_toNat g b).2, (resolve_autoBlend_toNat g' b).2]
    exact blendShare_mono (Nat.mul_le_mul (Nat.div_le_div_right hg) hg)
  case warmCap =>
    rw [(resolve_autoBlend_toNat g b).1]
    exact autoWarm_le g.toNat hg
  case warmPeak =>
    rw [(resolve_autoBlend_toNat 16383 b).1]
    rfl
  case warmDrop =>
    rw [hsucc] at hg'
    have hproduct := autoProduct_succ_le g.toNat hg'
    rw [(resolve_autoBlend_toNat g b).1, (resolve_autoBlend_toNat g' b).1, hsucc]
    omega

/-! ### The sums -/

theorem resolve_sum (g : RampLevel) (m : ChanMode) (b : BlendRatio) :
    (resolve g m b).1.toNat + (resolve g m b).2.toNat = if m = .bothTied then 2 * g.toNat else g.toNat := by
  cases m
  case ch1Only => simp
  case ch2Only => simp
  case bothTied => simp [Nat.two_mul]
  case manualBlend => exact blend2_sum g b
  case autoBlend => exact blend2_sum g (autoBlendRatio g)

/-- The power cap of R41 leaves room for the targets of every level in range. -/
theorem sum_le_powerCap (g : Nat) (m : ChanMode) (hg : g ≤ 32640) :
    (if m = .bothTied then 2 * g else g) ≤ powerCap m := by
  cases m <;> simp only [powerCap, reduceCtorEq, if_true, if_false] <;> omega

/-- Settles O34: the sum of each mode is within its cap, and no target exceeds the level. -/
theorem targetsSumByMode : Obligations.TargetsSumByMode := by
  intro g m b hg
  obtain ⟨h1, h2⟩ := resolve_le g m b
  have hsum := resolve_sum g m b
  exact ⟨hsum, hsum.trans_le (sum_le_powerCap g.toNat m hg), h1.trans hg, h2.trans hg⟩

end Sys2Proof.Machine
end

section
/-! PROOFS. SET_TARGET and the resolver's three commands (spec/42_output_driver.md sections 2 and 3, spec/43_mode_resolver.md
sections 3 to 5). -/

namespace Sys2Proof.Machine

/-! ### SET_TARGET -/

/-- The model's SET_TARGET is R121's. -/
theorem Channel.targetInstalled_setTarget (x : Channel) (r : RampLevel) :
    x.TargetInstalled (x.setTarget r) r.toNat where
  integerDuty := by rw [Channel.integerDuty_setTarget, intPart_toNat, clampRamp_toNat]
  fraction := by rw [Channel.fraction_setTarget, fracPart_toNat, clampRamp_toNat]
  enabled := by rw [Channel.setTarget, enabledFor, clampRamp_toNat]
  dutyOut := by rw [Channel.setTarget, intPart_toNat, clampRamp_toNat]
  accumulator := rfl

/-! A write of a channel leaves the shared registers and the model's own fields. -/

theorem State.sameConfig_setCh (s : State) (c : ChannelId) (x : Channel) : s.SameConfig (s.setCh c x) :=
  ⟨s.cntTop_setCh c x, s.cntMode_setCh c x, s.cfgLocked_setCh c x⟩

theorem State.sameLatches_setCh (s : State) (c : ChannelId) (x : Channel) : s.SameLatches (s.setCh c x) :=
  ⟨s.globalRamp_setCh c x, s.chanMode_setCh c x, s.blend_setCh c x⟩

theorem State.sameSurroundings_setCh (s : State) (c : ChannelId) (x : Channel) : s.SameSurroundings (s.setCh c x) :=
  ⟨s.inputs_setCh c x, s.params_setCh c x⟩

/-- Settles O36: SET_TARGET writes one channel, in the way of R121. -/
theorem setTargetSplitsEnablesAndWritesDuty : Obligations.SetTargetSplitsEnablesAndWritesDuty := by
  intro s c ramp
  refine ⟨?installed, fun d hd => ?otherChannel, s.sameConfig_setCh c _, s.sameLatches_setCh c _,
    s.sameSurroundings_setCh c _⟩
  case installed =>
    rw [State.ch_setTarget_self]
    exact (s.ch c).targetInstalled_setTarget ramp
  case otherChannel => rw [State.setTarget, State.ch_setCh, if_neg hd]

/-- A target that the channel already has: SET_TARGET only drives the duty register back to the integer duty (R129). -/
theorem Channel.setTarget_of_ramp_eq (x : Channel) (hx : x.Inv) (r : RampLevel) (hr : r.toNat = x.ramp) :
    x.setTarget r = { x with dutyOut := x.integerDuty } := by
  obtain ⟨_, hrange, hgating⟩ := hx
  have hf := x.fraction.isLt
  have hclamp : clampRamp r.toNat = r := clampRamp_of_le r (hr ▸ hrange)
  have hint : intPart r = x.integerDuty := by
    apply BitVec.eq_of_toNat_eq
    rw [intPart_toNat, hr, Channel.ramp, Config.fracMod]
    omega
  have hfrac : fracPart r = x.fraction := by
    apply BitVec.eq_of_toNat_eq
    rw [fracPart_toNat, hr, Channel.ramp, Config.fracMod]
    omega
  have hen : enabledFor r = x.enabled := by rw [enabledFor, hr, hgating]
  simp only [Channel.setTarget, hclamp, hint, hfrac, hen]

/-! ### PROPAGATE -/

/-- PROPAGATE installs R148's targets for the latched inputs. -/
theorem State.propagated_propagate (s : State) :
    s.Propagated s.propagate s.globalRamp.toNat s.chanMode s.blend.toNat := by
  obtain ⟨hch1, hch2⟩ := s.ch_propagate
  rw [State.Propagated, ← resolve_toNat, hch1, hch2]
  exact ⟨s.ch1.targetInstalled_setTarget _, s.ch2.targetInstalled_setTarget _⟩

/-- After PROPAGATE both channels meet R36, R38 and R39, whatever they held before. -/
theorem State.inv_ch_propagate (s : State) (c : ChannelId) : (s.propagate.ch c).Inv := by
  cases c
  · exact s.ch1.inv_setTarget _
  · exact s.ch2.inv_setTarget _

/-! ### The three commands -/

/-- Settles O23: the latch is the clamp of R15, and PROPAGATE does the rest. -/
theorem setChannelModeClampsAndPropagates : Obligations.SetChannelModeClampsAndPropagates := fun m s =>
  ⟨_, exec_setChannelMode m s, clampMode_code m.toNat, rfl, rfl, ⟨rfl, rfl, rfl⟩, ⟨rfl, rfl⟩,
    fun _ => (s.latchMode (clampMode m.toNat)).propagated_propagate⟩

/-- Settles O24: the latch is the clamp of R15, and PROPAGATE does the rest. -/
theorem setRampClampsAndPropagates : Obligations.SetRampClampsAndPropagates := by
  intro level s
  have hlevel := clampRamp_toNat level.toNat
  refine ⟨_, exec_setRamp level s, hlevel, rfl, rfl, ⟨rfl, rfl, rfl⟩, ⟨rfl, rfl⟩, ?_⟩
  rw [← hlevel]
  exact (s.latchRamp (clampRamp level.toNat)).propagated_propagate

theorem State.propagated_setBlend (s : State) (ratio : Arg) :
    s.Propagated (s.latchBlend (clampBlend ratio.toNat)).propagate s.globalRamp.toNat s.chanMode (min ratio.toNat 255) := by
  rw [← clampBlend_toNat]
  exact (s.latchBlend (clampBlend ratio.toNat)).propagated_propagate

/-- Settles O25: the latch is the clamp of R15, and PROPAGATE does the rest. -/
theorem setBlendClampsAndPropagates : Obligations.SetBlendClampsAndPropagates := fun ratio s =>
  ⟨_, exec_setBlend ratio s, clampBlend_toNat ratio.toNat, rfl, rfl, ⟨rfl, rfl, rfl⟩, ⟨rfl, rfl⟩,
    fun _ => s.propagated_setBlend ratio⟩

/-- Only MANUAL_BLEND reads the blend register (R154). -/
theorem resolve_blend_unused (g : RampLevel) (m : ChanMode) (hm : m ≠ .manualBlend) (b b' : BlendRatio) :
    resolve g m b = resolve g m b' := by
  cases m
  case manualBlend => exact absurd rfl hm
  all_goals rfl

/-- Settles O26: the targets do not depend on the ratio, so SET_TARGET installs the targets that the channels have. -/
theorem blendIsUnusedOutsideManualBlend : Obligations.BlendIsUnusedOutsideManualBlend := by
  intro ratio s hs hm
  refine ⟨_, exec_setBlend ratio s, clampBlend_toNat ratio.toNat, fun c => ?_⟩
  have hresolve := resolve_blend_unused s.globalRamp s.chanMode hm (clampBlend ratio.toNat) s.blend
  obtain ⟨hch1, hch2⟩ := (s.latchBlend (clampBlend ratio.toNat)).ch_propagate
  simp only [State.ch1_latchBlend, State.ch2_latchBlend, State.globalRamp_latchBlend, State.chanMode_latchBlend,
    State.blend_latchBlend, hresolve] at hch1 hch2
  cases c
  case one =>
    exact hch1.trans (s.ch1.setTarget_of_ramp_eq hs.ch1 _ (congrArg Prod.fst hs.targets).symm)
  case two =>
    exact hch2.trans (s.ch2.setTarget_of_ramp_eq hs.ch2 _ (congrArg Prod.snd hs.targets).symm)

/-- Installing a second target leaves what the second alone would. -/
theorem Channel.TargetInstalled.after {x y z : Channel} {r r' : Nat} (hxy : x.TargetInstalled y r)
    (hyz : y.TargetInstalled z r') : x.TargetInstalled z r' :=
  { hyz with accumulator := hyz.accumulator.trans hxy.accumulator }

theorem State.Propagated.after {s t u : State} {g g' : Nat} {m m' : ChanMode} {b b' : Nat}
    (hst : s.Propagated t g m b) (htu : t.Propagated u g' m' b') : s.Propagated u g' m' b' :=
  ⟨hst.1.after htu.1, hst.2.after htu.2⟩

/-- Settles O27: SET_CHANNEL_MODE propagates with the ratio that SET_BLEND latched. -/
theorem blendSetEarlyTakesEffectLater : Obligations.BlendSetEarlyTakesEffectLater := by
  intro ratio s _
  refine ⟨_, _, exec_setBlend ratio s, exec_setChannelMode 3 _, rfl, (s.propagated_setBlend ratio).after ?_⟩
  rw [← clampBlend_toNat]
  exact ((s.latchBlend (clampBlend ratio.toNat)).propagate.latchMode .manualBlend).propagated_propagate

/-- Every SET_* command latches something and propagates (R149). -/
theorem exec_eq_propagate (i : Instr) (s : State)
    (hi : (∃ m, i = .setChannelMode m) ∨ (∃ level, i = .setRamp level) ∨ (∃ ratio, i = .setBlend ratio)) :
    ∃ latched : State, exec i s = .next latched.propagate := by
  rcases hi with ⟨m, rfl⟩ | ⟨level, rfl⟩ | ⟨ratio, rfl⟩
  · exact ⟨_, exec_setChannelMode m s⟩
  · exact ⟨_, exec_setRamp level s⟩
  · exact ⟨_, exec_setBlend ratio s⟩

/-- R39, as an equivalence. -/
theorem Channel.Inv.enabled_iff {x : Channel} (hx : x.Inv) : x.enabled = true ↔ 0 < x.ramp := by
  rw [hx.gating, decide_eq_true_iff]

/-- Settles O38: each command ends with PROPAGATE, after which R39 holds in both channels. -/
theorem enabledFollowsTargetAfterEveryCommand : Obligations.EnabledFollowsTargetAfterEveryCommand := by
  intro i s hi
  obtain ⟨latched, hexec⟩ := exec_eq_propagate i s hi
  exact ⟨_, hexec, fun c => (latched.inv_ch_propagate c).enabled_iff⟩

end Sys2Proof.Machine
end

section
/-! PROOFS. The invariant R36 and R38 to R41 (spec/10_state.md section 7): RESET establishes it, every operation keeps it,
and what it says of the outputs. -/

namespace Sys2Proof.Machine

/-! ### One channel -/

theorem Channel.inv_reset : Channel.reset.Inv where
  duty := ⟨.inl rfl, fun _ => rfl⟩
  range := by decide
  gating := rfl

/-- Where the step of a channel in range carries, its fraction is not 0, so its integer duty is below 255 (R107). -/
theorem Channel.integerDuty_lt_of_carry (x : Channel) (hx : x.TargetInRange)
    (hc : 128 ≤ x.accumulator.toNat + x.fraction.toNat) : x.integerDuty.toNat + 1 ≤ 255 := by
  have ha := x.accumulator.isLt
  simp only [Channel.TargetInRange, Channel.ramp, Config.fracMod, Config.rampMax] at hx
  omega

/-- In a channel in range a carry adds exactly one: the saturation of R102 does not act. -/
theorem Channel.dutyOut_dsmStep_of_inRange (x : Channel) (hx : x.TargetInRange) :
    x.dsmStep.dutyOut.toNat =
      x.integerDuty.toNat + if 128 ≤ x.accumulator.toNat + x.fraction.toNat then 1 else 0 := by
  rw [Channel.dutyOut_dsmStep]
  split
  case isTrue hc => exact Nat.min_eq_left (x.integerDuty_lt_of_carry hx hc)
  case isFalse => rfl

/-- With a fraction of 0 a step carries never and writes the integer duty. -/
theorem Channel.dutyOut_dsmStep_of_fraction_zero (x : Channel) (hf : x.fraction.toNat = 0) :
    x.dsmStep.dutyOut = x.integerDuty := by
  have ha := x.accumulator.isLt
  apply BitVec.eq_of_toNat_eq
  rw [Channel.dutyOut_dsmStep, if_neg (by omega)]

theorem Channel.Inv.dsmStep {x : Channel} (hx : x.Inv) : x.dsmStep.Inv where
  duty := by
    constructor
    · rw [Channel.integerDuty_dsmStep, x.dutyOut_dsmStep_of_inRange hx.range]
      split
      case isTrue => exact .inr rfl
      case isFalse => exact .inl rfl
    · rw [Channel.fraction_dsmStep, Channel.integerDuty_dsmStep]
      exact x.dutyOut_dsmStep_of_fraction_zero
  range := by rw [Channel.TargetInRange, Channel.ramp_dsmStep]; exact hx.range
  gating := by rw [Channel.EnabledIffLit, Channel.ramp_dsmStep, Channel.enabled_dsmStep]; exact hx.gating

theorem Channel.Inv.gatedStep {x : Channel} (hx : x.Inv) (gate : Bool) : (x.gatedStep gate).Inv := by
  rcases x.gatedStep_cases gate with ⟨h, _⟩ | h
  · rwa [h]
  · rw [h]
    exact hx.dsmStep

/-! ### The state -/

/-- The invariant speaks of the channels and the latched inputs only. -/
theorem State.Inv.of_same {s t : State} (hs : s.Inv) (h1 : t.ch1 = s.ch1) (h2 : t.ch2 = s.ch2) (hl : s.SameLatches t) :
    t.Inv := by
  obtain ⟨hg, hm, hb⟩ := hl
  constructor
  case ch1 => rw [h1]; exact hs.ch1
  case ch2 => rw [h2]; exact hs.ch2
  case targets => rw [State.TargetsResolved, h1, h2, hg, hm, hb]; exact hs.targets
  case level => rw [hg]; exact hs.level
  case power => rw [h1, h2, hm]; exact hs.power

theorem State.Inv.withInputs {s : State} (hs : s.Inv) (es : List Edge) : (s.withInputs es).Inv :=
  hs.of_same rfl rfl ⟨rfl, rfl, rfl⟩

theorem State.Inv.lockConfig {s : State} (hs : s.Inv) (top : Duty) (cmode : CntMode) : (s.lockConfig top cmode).Inv :=
  hs.of_same rfl rfl ⟨rfl, rfl, rfl⟩

theorem State.Inv.ch {s : State} (hs : s.Inv) (c : ChannelId) : (s.ch c).Inv := by
  cases c
  · exact hs.ch1
  · exact hs.ch2

/-- For a level in range PROPAGATE establishes the invariant, whatever the channels held before. -/
theorem State.inv_propagate (s : State) (hlevel : s.globalRamp.toNat ≤ 32640) : s.propagate.Inv where
  ch1 := s.inv_ch_propagate .one
  ch2 := s.inv_ch_propagate .two
  targets := (s.ramp_propagate hlevel).trans (resolve_toNat _ _ _).symm
  level := hlevel
  power := by
    obtain ⟨h1, h2⟩ :=
      Prod.mk.inj ((s.ramp_propagate hlevel).trans (resolve_toNat s.globalRamp s.chanMode s.blend).symm)
    rw [h1, h2, resolve_sum]
    exact sum_le_powerCap _ _ hlevel

theorem State.Inv.tick {s : State} (hs : s.Inv) : s.tick.Inv where
  ch1 := hs.ch1.gatedStep _
  ch2 := hs.ch2.gatedStep _
  targets := by
    rw [State.TargetsResolved, State.ch1_tick, State.ch2_tick, Channel.ramp_gatedStep, Channel.ramp_gatedStep]
    exact hs.targets
  level := hs.level
  power := by
    rw [State.ch1_tick, State.ch2_tick, Channel.ramp_gatedStep, Channel.ramp_gatedStep]
    exact hs.power

/-- At the level 0 every mode's targets are 0. -/
theorem resolve_zero (m : ChanMode) (b : BlendRatio) : resolve 0 m b = (0, 0) := by
  obtain ⟨h1, h2⟩ := resolve_le 0 m b
  exact targets_ext (Nat.le_zero.mp h1) (Nat.le_zero.mp h2)

theorem State.inv_resetWith (p : Config.Params) : (State.resetWith p).Inv where
  ch1 := Channel.inv_reset
  ch2 := Channel.inv_reset
  targets := by
    rw [State.TargetsResolved, show (State.resetWith p).globalRamp = 0 from rfl, resolve_zero]
    rfl
  level := Nat.zero_le _
  power := Nat.zero_le _

/-- Settles O17: at the level 0 every mode resolves to the targets 0 that RESET writes. -/
theorem resetStateMeetsTheInvariant : Obligations.ResetStateMeetsTheInvariant :=
  ⟨State.inv_resetWith, State.inv_resetWith _⟩

theorem clampRamp_le (v : Nat) : (clampRamp v).toNat ≤ 32640 := by
  rw [clampRamp_toNat]
  exact Nat.min_le_right _ _

/-- Every operation keeps the invariant. -/
theorem exec_keeps_inv (i : Instr) (s t : State) (h : exec i s = .next t) (hs : s.Inv) : t.Inv := by
  cases i with
  | configure top cmode =>
    rcases exec_configure_cases top cmode s t h with ⟨_, rfl⟩ | ⟨_, rfl⟩
    · exact hs
    · exact hs.lockConfig top cmode
  | setChannelMode m =>
    cases h
    exact State.inv_propagate _ hs.level
  | setRamp level =>
    cases h
    exact State.inv_propagate _ (clampRamp_le level.toNat)
  | setBlend ratio =>
    cases h
    exact State.inv_propagate _ hs.level
  | reset =>
    cases h
    exact (State.inv_resetWith s.params).withInputs s.inputs
  | tick =>
    cases h
    exact hs.tick

/-- Settles O52: a step is operations on the state with an edge consumed, and each operation keeps the invariant. -/
theorem stepKeepsTheInvariant : Obligations.StepKeepsTheInvariant := fun s t hs h =>
  step_keeps State.Inv (fun _ es hs => hs.withInputs es) exec_keeps_inv s t h hs

/-- Settles O53: the reset state meets the invariant, and no event breaks it. -/
theorem reachableStatesMeetTheInvariant : Obligations.ReachableStatesMeetTheInvariant := by
  rintro t ⟨p, es, n, hrun⟩
  exact runsTo_keeps (fun _ => True) State.Inv (fun _ es hs => hs.withInputs es) (fun i _ => exec_keeps_inv i) n _ t
    (fun _ _ _ _ => trivial) hrun ((State.inv_resetWith p).withInputs es)

/-! ### A channel without a target is dark -/

/-- A target of 0 is an integer duty of 0 and a fraction of 0. -/
theorem Channel.parts_of_ramp_zero (x : Channel) (hx : x.ramp = 0) :
    x.integerDuty = 0 ∧ x.fraction.toNat = 0 := by
  simp only [Channel.ramp, Config.fracMod] at hx
  exact ⟨BitVec.eq_of_toNat_eq (by simp; omega), by omega⟩

theorem Channel.Inv.dark_of_ramp_zero {x : Channel} (hx : x.Inv) (hr : x.ramp = 0) :
    x.enabled = false ∧ x.dutyOut = 0 ∧ armed x = false := by
  obtain ⟨hi, hf⟩ := x.parts_of_ramp_zero hr
  refine ⟨?supply, (hx.duty.2 hf).trans hi, ?armed⟩
  case supply => rw [hx.gating, hr]; rfl
  case armed => simp [armed, hf]

theorem Channel.Inv.dark_of_not_enabled {x : Channel} (hx : x.Inv) (he : x.enabled = false) :
    x.dutyOut = 0 ∧ armed x = false := by
  have hr : x.ramp = 0 := by
    rw [hx.gating, decide_eq_false_iff_not] at he
    exact Nat.eq_zero_of_not_pos he
  exact (hx.dark_of_ramp_zero hr).2

/-- Settles O54: the outputs are the registers, and R39 and R36 leave a channel without supply no duty. -/
theorem unsuppliedChannelHasZeroDuty : Obligations.UnsuppliedChannelHasZeroDuty := fun _ hs =>
  ⟨hs.ch1.enabled_iff, hs.ch2.enabled_iff, hs.ch1.dark_of_not_enabled, hs.ch2.dark_of_not_enabled⟩

/-- At the level 0 both channels are dark. -/
theorem State.Inv.dark {s : State} (hs : s.Inv) (hlevel : s.globalRamp = 0) (c : ChannelId) :
    (s.ch c).enabled = false ∧ (s.ch c).dutyOut = 0 := by
  have htargets := hs.targets
  rw [State.TargetsResolved, hlevel, resolve_zero] at htargets
  have hr : (s.ch c).ramp = 0 := by
    cases c
    · exact congrArg Prod.fst htargets
    · exact congrArg Prod.snd htargets
  obtain ⟨hen, hduty, _⟩ := (hs.ch c).dark_of_ramp_zero hr
  exact ⟨hen, hduty⟩

/-- An event that does not raise the level from 0. -/
def NotRaising (i : Instr) : Prop := ∀ level, i = .setRamp level → level = 0

theorem exec_keeps_globalRamp_zero (i : Instr) (hi : NotRaising i) (s t : State) (h : exec i s = .next t)
    (hs : s.globalRamp = 0) : t.globalRamp = 0 := by
  cases i with
  | configure top cmode => rcases exec_configure_cases top cmode s t h with ⟨_, rfl⟩ | ⟨_, rfl⟩ <;> exact hs
  | setRamp level =>
    cases h
    rw [hi level rfl]
    rfl
  | reset =>
    cases h
    rfl
  | setChannelMode m => cases h; exact hs
  | setBlend ratio => cases h; exact hs
  | tick => cases h; exact hs

/-- Settles O55: events that do not raise the level keep it at 0, where the invariant leaves both channels dark. -/
theorem lightStaysOffUntilTheRampIsRaised : Obligations.LightStaysOffUntilTheRampIsRaised := by
  intro n s t hs hlevel hcommands hrun c
  have hok : ∀ e ∈ s.inputs, ∀ i ∈ edgeEvents e, NotRaising i := by
    rintro e he i hi level rfl
    rcases mem_edgeEvents e _ hi with ⟨_, h⟩ | ⟨_, h⟩ | ⟨_, hvalid, hdec⟩
    · cases h
    · cases h
    · exact hcommands e he level hvalid hdec
  obtain ⟨ht, hlevel'⟩ := runsTo_keeps NotRaising (fun u => u.Inv ∧ u.globalRamp = 0)
    (fun _ es hu => ⟨hu.1.withInputs es, hu.2⟩)
    (fun i hi u v h hu => ⟨exec_keeps_inv i u v h hu.1, exec_keeps_globalRamp_zero i hi u v h hu.2⟩)
    n s t hok hrun ⟨hs, hlevel⟩
  exact ht.dark hlevel' c

end Sys2Proof.Machine
end

section
/-! PROOFS. RESET and CounterConfig (spec/70_reset_and_hazards.md section 1, spec/40_counter_config.md section 2). -/

namespace Sys2Proof.Machine

/-! ### RESET -/

/-- Settles O16: RESET's state is written out by R200, and it depends on the parameters and the waiting edges only. -/
theorem resetWritesEveryRegister : Obligations.ResetWritesEveryRegister := fun s =>
  ⟨_, exec_reset s, fun c => by rw [State.ch_withInputs, State.resetWith_ch]; exact ⟨rfl, rfl, rfl, rfl, rfl⟩,
    rfl, rfl, rfl, rfl, rfl, rfl, ⟨rfl, rfl⟩, exec_reset _⟩

/-- A channel with a fraction of 0 whose duty register holds the integer duty is not changed by TICK, with or without the
gate (R108). -/
theorem Channel.gatedStep_of_fraction_zero (x : Channel) (gate : Bool) (hf : x.fraction.toNat = 0)
    (hd : x.dutyOut = x.integerDuty) : x.gatedStep gate = x := by
  rcases x.gatedStep_cases gate with ⟨h, _⟩ | h
  · exact h
  · rw [h, x.dsmStep_of_fraction_zero hf hd]

@[simp] theorem Channel.gatedStep_reset (gate : Bool) : Channel.reset.gatedStep gate = Channel.reset :=
  Channel.reset.gatedStep_of_fraction_zero gate rfl rfl

/-- A TICK that changes neither channel changes nothing. -/
theorem State.tick_eq_self (s : State) (h1 : s.ch1.gatedStep s.params.dsmGate = s.ch1)
    (h2 : s.ch2.gatedStep s.params.dsmGate = s.ch2) : s.tick = s := by
  change { s with ch1 := s.ch1.gatedStep s.params.dsmGate, ch2 := s.ch2.gatedStep s.params.dsmGate } = s
  rw [h1, h2]

/-- Settles O18: both channels have the fraction 0 and the duty 0. -/
theorem tickOnResetStateChangesNothing : Obligations.TickOnResetStateChangesNothing := by
  intro p
  rw [exec_tick, State.tick_eq_self _ (Channel.gatedStep_reset _) (Channel.gatedStep_reset _)]

/-! ### CounterConfig -/

/-- Settles O19: the branch of CONFIGURE without the lock. -/
theorem firstConfigureWritesAndLocks : Obligations.FirstConfigureWritesAndLocks := exec_configure_unlocked

/-- Settles O20: the branch of CONFIGURE with the lock. -/
theorem laterConfigureIsIgnored : Obligations.LaterConfigureIsIgnored := exec_configure_locked

/-- Only CONFIGURE on the unlocked CounterConfig and RESET write it or its lock. -/
theorem exec_keeps_config (i : Instr) (s t : State) (h : exec i s = .next t)
    (hwriter : ¬ ((s.cfgLocked = false ∧ ∃ top cmode, i = .configure top cmode) ∨ i = .reset)) : s.SameConfig t := by
  cases i with
  | configure top cmode =>
    rcases exec_configure_cases top cmode s t h with ⟨_, rfl⟩ | ⟨hl, _⟩
    · exact ⟨rfl, rfl, rfl⟩
    · exact absurd (.inl ⟨hl, top, cmode, rfl⟩) hwriter
  | reset => exact absurd (.inr rfl) hwriter
  | setChannelMode m => cases h; exact ⟨rfl, rfl, rfl⟩
  | setRamp level => cases h; exact ⟨rfl, rfl, rfl⟩
  | setBlend ratio => cases h; exact ⟨rfl, rfl, rfl⟩
  | tick => cases h; exact ⟨rfl, rfl, rfl⟩

/-- Settles O21: without `rst` no edge brings RESET, and CONFIGURE finds the lock set. -/
theorem counterConfigIsWriteOnce : Obligations.CounterConfigIsWriteOnce := by
  intro n s t hlocked hrst hrun
  have hok : ∀ e ∈ s.inputs, ∀ i ∈ edgeEvents e, i ≠ .reset := by
    rintro e he i hi rfl
    rcases mem_edgeEvents e _ hi with ⟨h, _⟩ | ⟨_, h⟩ | ⟨_, _, hdec⟩
    · rw [hrst e he] at h
      cases h
    · cases h
    · exact decodeCommand_ne_reset _ hdec
  refine runsTo_keeps (· ≠ .reset) s.SameConfig (fun _ _ hu => hu) ?_ n s t hok hrun ⟨rfl, rfl, rfl⟩
  rintro i hi u v h ⟨htop, hmode, hlock⟩
  have hwriter : ¬ ((u.cfgLocked = false ∧ ∃ top cmode, i = .configure top cmode) ∨ i = .reset) := by
    rintro (⟨hunlocked, _⟩ | hreset)
    · rw [hlock, hlocked] at hunlocked
      cases hunlocked
    · exact hi hreset
  obtain ⟨htop', hmode', hlock'⟩ := exec_keeps_config i u v h hwriter
  exact ⟨htop'.trans htop, hmode'.trans hmode, hlock'.trans hlock⟩

/-- The two states agree in everything but CounterConfig and its lock. -/
def State.SameButConfig (s t : State) : Prop :=
  t = { s with cntTop := t.cntTop, cntMode := t.cntMode, cfgLocked := t.cfgLocked }

/-- CONFIGURE changes nothing but CounterConfig and its lock. -/
theorem exec_configure_sameButConfig (top : Duty) (cmode : CntMode) (s : State) :
    ∃ t, exec (.configure top cmode) s = .next t ∧ s.SameButConfig t := by
  obtain ⟨t, ht⟩ := exec_next (.configure top cmode) s
  rcases exec_configure_cases top cmode s t ht with ⟨_, rfl⟩ | ⟨_, rfl⟩ <;> exact ⟨_, ht, rfl⟩

theorem State.SameButConfig.symm {s t : State} (h : s.SameButConfig t) : t.SameButConfig s := by
  rw [State.SameButConfig, h]

theorem State.SameButConfig.trans {s t u : State} (h : s.SameButConfig t) (h' : t.SameButConfig u) :
    s.SameButConfig u := by
  rw [State.SameButConfig, h', h]

/-- No operation reads CounterConfig (R93). -/
theorem keptByOperations_sameButConfig : KeptByOperations State.SameButConfig where
  inputs h := by rw [h]
  withInputs es h := by rw [h]; rfl
  exec {s t} i h := by
    cases i
    case configure top cmode =>
      obtain ⟨s', hs, hs'⟩ := exec_configure_sameButConfig top cmode s
      obtain ⟨t', ht, ht'⟩ := exec_configure_sameButConfig top cmode t
      exact ⟨s', t', hs, ht, hs'.symm.trans (h.trans ht')⟩
    all_goals
      rw [h]
      exact ⟨_, _, rfl, rfl, rfl⟩

/-- Settles O22: the two runs stay the same but for CounterConfig and its lock. -/
theorem counterConfigReachesNothingElse : Obligations.CounterConfigReachesNothingElse := by
  intro n s top cmode locked
  obtain ⟨t, u, hrun, hrun', h⟩ := keptByOperations_sameButConfig.runsTo n
    (show s.SameButConfig { s with cntTop := top, cntMode := cmode, cfgLocked := locked } from rfl)
  rw [h] at hrun'
  exact ⟨t, _, hrun, hrun', rfl, rfl, ⟨rfl, rfl, rfl⟩, ⟨rfl, rfl⟩⟩

end Sys2Proof.Machine
end

section
/-! PROOFS. One TICK (spec/41_dsm_engine.md sections 2, 3, 5): the step of each channel, with and without the gate, and its
arithmetic bit by bit. -/

namespace Sys2Proof.Machine

/-! ### The step of a channel -/

/-- The model's DSM_STEP is R101's. -/
theorem Channel.stepped_dsmStep (x : Channel) : x.Stepped x.dsmStep where
  carry hc := by
    have ha := x.accumulator.isLt
    have hf := x.fraction.isLt
    rw [x.dutyOut_dsmStep, if_pos hc, x.accumulator_dsmStep]
    omega
  noCarry hc := by
    constructor
    · apply BitVec.eq_of_toNat_eq
      rw [x.dutyOut_dsmStep, if_neg (Nat.not_le.mpr hc)]
    · rw [x.accumulator_dsmStep, Nat.mod_eq_of_lt hc]
  integerDuty := x.integerDuty_dsmStep
  fraction := x.fraction_dsmStep
  enabled := x.enabled_dsmStep

/-- With the gate a channel that is armed takes its step. -/
theorem Channel.gatedStep_of_armed (x : Channel) (gate : Bool) (hf : x.fraction ≠ 0) : x.gatedStep gate = x.dsmStep := by
  rcases x.gatedStep_cases gate with ⟨_, h0⟩ | h
  · exact absurd (BitVec.eq_of_toNat_eq h0) hf
  · exact h

/-- With the gate a channel that is not armed is left as it is. -/
theorem Channel.gatedStep_true_of_fraction_zero (x : Channel) (hf : x.fraction.toNat = 0) : x.gatedStep true = x := by
  rw [Channel.gatedStep_true, if_pos hf]

/-- Settles O39: without the gate each channel takes one DSM step. -/
theorem tickStepsEachChannel : Obligations.TickStepsEachChannel := by
  intro s hgate
  refine ⟨s.tick, exec_tick s, fun c => ?_, ⟨rfl, rfl, rfl⟩, ⟨rfl, rfl, rfl⟩, ⟨rfl, rfl⟩⟩
  rw [State.ch_tick, hgate, Channel.gatedStep_false]
  exact (s.ch c).stepped_dsmStep

/-- Settles O40: with the gate the fraction decides whether a channel takes its step. -/
theorem gatedTickStepsArmedChannels : Obligations.GatedTickStepsArmedChannels := by
  intro s hgate
  refine ⟨s.tick, exec_tick s, fun c => ⟨fun hf => ?idle, fun hf => ?armed⟩, ⟨rfl, rfl, rfl⟩, ⟨rfl, rfl, rfl⟩,
    ⟨rfl, rfl⟩⟩
  case idle =>
    rw [State.ch_tick, hgate]
    exact (s.ch c).gatedStep_true_of_fraction_zero (congrArg BitVec.toNat hf)
  case armed =>
    rw [State.ch_tick, (s.ch c).gatedStep_of_armed _ hf]
    exact (s.ch c).stepped_dsmStep

/-- Settles O43: the step keeps R36 in the channel, and a carry needs a fraction, which R38 allows only below 255. -/
theorem tickDutyStaysNextToTarget : Obligations.TickDutyStaysNextToTarget := by
  intro s c hc
  refine ⟨s.tick, exec_tick s, ?near, (s.ch c).integerDuty_lt_of_carry hc.range⟩
  have hnear := (hc.gatedStep s.params.dsmGate).duty.1
  rwa [Channel.integerDuty_gatedStep, ← State.ch_tick] at hnear

/-! ### The step's arithmetic at 8 and 9 bits (R104) -/

theorem dsmSumWord_toNat (x : Channel) :
    (x.accumulator.setWidth 8 + x.fraction.setWidth 8).toNat = x.accumulator.toNat + x.fraction.toNat := by
  have ha := x.accumulator.isLt
  have hf := x.fraction.isLt
  simp only [BitVec.toNat_add, BitVec.toNat_setWidth]
  omega

theorem dutyIncrementWord_toNat (i : Duty) : (i.setWidth 9 + 1).toNat = i.toNat + 1 := by
  have hi := i.isLt
  simp only [BitVec.toNat_add, BitVec.toNat_setWidth, BitVec.ofNat_eq_ofNat, BitVec.toNat_ofNat]
  omega

/-- The top bit of a word of n + 1 bits says that the word's value reaches 2 ^ n. -/
theorem getLsbD_top_iff {n : Nat} (x : BitVec (n + 1)) : x.getLsbD n = true ↔ 2 ^ n ≤ x.toNat := by
  have hmsb := x.msb_eq_decide
  rw [BitVec.msb_eq_getLsbD_last, Nat.add_sub_cancel] at hmsb
  rw [hmsb, decide_eq_true_iff]

/-- The saturation of R102 on the 9-bit increment. -/
theorem saturatedIncrement_toNat (i : Duty) :
    (if (i.setWidth 9 + 1).getLsbD 8 then (255 : Duty) else (i.setWidth 9 + 1).setWidth 8).toNat =
      min (i.toNat + 1) 255 := by
  have hi := i.isLt
  have hinc := dutyIncrementWord_toNat i
  have htop := getLsbD_top_iff (i.setWidth 9 + 1)
  rw [hinc] at htop
  split
  case isTrue hbit =>
    have hbig := htop.mp hbit
    exact (Nat.min_eq_right (by omega)).symm
  case isFalse hbit =>
    have hsmall : ¬ 2 ^ 8 ≤ i.toNat + 1 := mt htop.mpr hbit
    rw [BitVec.toNat_setWidth, hinc]
    omega

/-- Settles O42: the words have the values of the naturals that the step computes with. -/
theorem dsmStepIsEightBitAddition : Obligations.DsmStepIsEightBitAddition := by
  intro x sum next
  have hsum : sum.toNat = x.accumulator.toNat + x.fraction.toNat := dsmSumWord_toNat x
  have hcarry : sum.getLsbD 7 = true ↔ 128 ≤ sum.toNat := getLsbD_top_iff sum
  refine ⟨hsum, dutyIncrementWord_toNat x.integerDuty, hcarry, ?accumulator, ?duty⟩
  case accumulator =>
    apply BitVec.eq_of_toNat_eq
    rw [x.accumulator_dsmStep, BitVec.extractLsb'_toNat, hsum, Nat.shiftRight_zero]
  case duty =>
    apply BitVec.eq_of_toNat_eq
    rw [x.dutyOut_dsmStep, ← hsum]
    by_cases hbit : sum.getLsbD 7 = true
    · rw [if_pos (hcarry.mp hbit), if_pos hbit]
      exact (saturatedIncrement_toNat x.integerDuty).symm
    · rw [if_neg (mt hcarry.mpr hbit), if_neg hbit]

end Sys2Proof.Machine
end

section
/-! PROOFS. Many TICKs (spec/41_dsm_engine.md section 4): the closed form of the accumulator and of the duty writes, and
what follows from it, the count, the period and the average. -/

namespace Sys2Proof.Machine

/-! ### What n TICKs keep -/

@[simp] theorem State.params_ticked (s : State) (n : Nat) : (s.ticked n).params = s.params := by
  induction n with
  | zero => rfl
  | succ n ih => rw [State.ticked, State.params_tick, ih]

/-- The next TICK's part of a channel. -/
theorem State.ch_ticked_succ (s : State) (c : ChannelId) (n : Nat) :
    (s.ticked (n + 1)).ch c = ((s.ticked n).ch c).gatedStep s.params.dsmGate := by
  rw [State.ticked, State.ch_tick, State.params_ticked]

@[simp] theorem State.integerDuty_ticked (s : State) (c : ChannelId) (n : Nat) :
    ((s.ticked n).ch c).integerDuty = (s.ch c).integerDuty := by
  induction n with
  | zero => rfl
  | succ n ih => rw [State.ch_ticked_succ, Channel.integerDuty_gatedStep, ih]

@[simp] theorem State.fraction_ticked (s : State) (c : ChannelId) (n : Nat) :
    ((s.ticked n).ch c).fraction = (s.ch c).fraction := by
  induction n with
  | zero => rfl
  | succ n ih => rw [State.ch_ticked_succ, Channel.fraction_gatedStep, ih]

theorem State.inv_ch_ticked (s : State) (c : ChannelId) (n : Nat) (hc : (s.ch c).Inv) : ((s.ticked n).ch c).Inv := by
  induction n with
  | zero => exact hc
  | succ n ih =>
    rw [State.ch_ticked_succ]
    exact ih.gatedStep _

/-! ### The closed form -/

/-- The accumulator is a running sum modulo 128. -/
theorem State.accumulator_ticked (s : State) (c : ChannelId) (n : Nat) :
    ((s.ticked n).ch c).accumulator.toNat =
      ((s.ch c).accumulator.toNat + n * (s.ch c).fraction.toNat) % 128 := by
  induction n with
  | zero =>
    have ha := (s.ch c).accumulator.isLt
    rw [Nat.zero_mul, Nat.add_zero, Nat.mod_eq_of_lt ha, State.ticked]
  | succ n ih =>
    rw [State.ch_ticked_succ, Channel.accumulator_gatedStep, ih, State.fraction_ticked, Nat.mod_add_mod, Nat.succ_mul,
      Nat.add_assoc]

/-- TICK number n + 1 from a channel's contents carries. -/
abbrev Channel.CarriesAt (x : Channel) (n : Nat) : Prop :=
  128 ≤ (x.accumulator.toNat + n * x.fraction.toNat) % 128 + x.fraction.toNat

/-- What TICK number k + 1 writes in a channel whose DSM step it runs. -/
theorem State.dutyAfterTick_of_dsmStep (s : State) (c : ChannelId) (k : Nat)
    (h : (s.ticked (k + 1)).ch c = ((s.ticked k).ch c).dsmStep) :
    s.dutyAfterTick c k =
      if (s.ch c).CarriesAt k then min ((s.ch c).integerDuty.toNat + 1) 255 else (s.ch c).integerDuty.toNat := by
  rw [State.dutyAfterTick, h, Channel.dutyOut_dsmStep, State.accumulator_ticked, State.fraction_ticked,
    State.integerDuty_ticked]

/-- A channel with a fraction never skips its step. -/
theorem State.dutyAfterTick_of_armed (s : State) (c : ChannelId) (k : Nat) (hf : (s.ch c).fraction ≠ 0) :
    s.dutyAfterTick c k =
      if (s.ch c).CarriesAt k then min ((s.ch c).integerDuty.toNat + 1) 255 else (s.ch c).integerDuty.toNat :=
  s.dutyAfterTick_of_dsmStep c k (by
    rw [State.ch_ticked_succ]
    exact Channel.gatedStep_of_armed _ _ (by rwa [State.fraction_ticked]))

/-- A fraction of 0 never carries. -/
theorem Channel.not_carriesAt_of_fraction_zero (x : Channel) (hf : x.fraction.toNat = 0) (n : Nat) :
    ¬ x.CarriesAt n := by
  simp only [Channel.CarriesAt, hf]
  omega

/-- In a channel that meets the invariant each TICK writes the integer duty, or one more where it carries. -/
theorem State.dutyAfterTick_of_inv (s : State) (c : ChannelId) (k : Nat) (hc : (s.ch c).Inv) :
    s.dutyAfterTick c k = (s.ch c).integerDuty.toNat + if (s.ch c).CarriesAt k then 1 else 0 := by
  by_cases hf : (s.ch c).fraction = 0
  case pos =>
    have hf0 : (s.ch c).fraction.toNat = 0 := congrArg BitVec.toNat hf
    have hduty : ((s.ticked (k + 1)).ch c).dutyOut = ((s.ticked (k + 1)).ch c).integerDuty :=
      (s.inv_ch_ticked c (k + 1) hc).duty.2 (by rw [State.fraction_ticked, hf0])
    rw [State.dutyAfterTick, hduty, State.integerDuty_ticked, if_neg ((s.ch c).not_carriesAt_of_fraction_zero hf0 k)]
    rfl
  case neg =>
    rw [s.dutyAfterTick_of_armed c k hf]
    split
    case isTrue hcarry =>
      refine Nat.min_eq_left (Nat.lt_of_not_le fun hi => ?_)
      have hroom := ((s.ticked k).ch c).integerDuty_lt_of_carry (s.inv_ch_ticked c k hc).range
        (by rwa [State.accumulator_ticked, State.fraction_ticked])
      rw [State.integerDuty_ticked] at hroom
      omega
    case isFalse => rfl

/-- The quotient of the running sum grows by one exactly at a carry. -/
theorem Channel.carries_succ (x : Channel) (n : Nat) :
    (x.accumulator.toNat + (n + 1) * x.fraction.toNat) / 128 =
      (x.accumulator.toNat + n * x.fraction.toNat) / 128 + if x.CarriesAt n then 1 else 0 := by
  have hf := x.fraction.isLt
  rw [Nat.succ_mul]
  split <;> omega

/-- How many of n TICKs carry, and so write the duty plus one. -/
theorem State.dutyCount_succ_of_inv (s : State) (c : ChannelId) (hc : (s.ch c).Inv) (n : Nat) :
    s.dutyCount c ((s.ch c).integerDuty.toNat + 1) n =
      ((s.ch c).accumulator.toNat + n * (s.ch c).fraction.toNat) / 128 := by
  induction n with
  | zero =>
    have ha := (s.ch c).accumulator.isLt
    rw [State.dutyCount, Nat.zero_mul, Nat.add_zero, Nat.div_eq_of_lt ha]
  | succ n ih =>
    rw [State.dutyCount, ih, Channel.carries_succ, s.dutyAfterTick_of_inv c n hc]
    by_cases hcarry : (s.ch c).CarriesAt n <;> simp [hcarry]

/-- Settles O45: the running sum's remainder is the accumulator and its quotient the number of carries. -/
theorem ticksHaveClosedForm : Obligations.TicksHaveClosedForm := fun s c n =>
  ⟨s.accumulator_ticked c n, fun hc => ⟨s.dutyCount_succ_of_inv c hc n, s.dutyAfterTick_of_inv c n hc⟩⟩

/-! ### 128 TICKs -/

/-- In a channel that meets the invariant every TICK writes one of the two duties. -/
theorem State.dutyCount_add_dutyCount_succ (s : State) (c : ChannelId) (hc : (s.ch c).Inv) (n : Nat) :
    s.dutyCount c (s.ch c).integerDuty.toNat n + s.dutyCount c ((s.ch c).integerDuty.toNat + 1) n = n := by
  induction n with
  | zero => rfl
  | succ n ih =>
    rw [State.dutyCount, State.dutyCount, s.dutyAfterTick_of_inv c n hc]
    by_cases hcarry : (s.ch c).CarriesAt n <;> simp [hcarry] <;> omega

/-- Over 128 TICKs the carries are the fraction: the accumulator comes back to its start. -/
theorem State.dutyCount_succ_128 (s : State) (c : ChannelId) (hc : (s.ch c).Inv) :
    s.dutyCount c ((s.ch c).integerDuty.toNat + 1) 128 = (s.ch c).fraction.toNat := by
  have ha := (s.ch c).accumulator.isLt
  rw [s.dutyCount_succ_of_inv c hc 128]
  omega

theorem State.dutyCount_eq_of_forall (s : State) (c : ChannelId) (d : Nat) (h : ∀ k, s.dutyAfterTick c k = d) (n : Nat) :
    s.dutyCount c d n = n := by
  induction n with
  | zero => rfl
  | succ n ih => rw [State.dutyCount, ih, if_pos (h n)]

/-- Settles O46: the count of carries over 128 TICKs; at integer duty 255 a carry saturates to 255 as well. -/
theorem dutyPlusOneIsWrittenFractionTimes : Obligations.DutyPlusOneIsWrittenFractionTimes := by
  intro s c
  refine ⟨fun hc => ⟨s.dutyCount_succ_128 c hc, ?plain⟩, fun hi hf => ?saturated⟩
  case plain =>
    have hboth := s.dutyCount_add_dutyCount_succ c hc 128
    rw [s.dutyCount_succ_128 c hc] at hboth
    omega
  case saturated =>
    refine s.dutyCount_eq_of_forall c 255 (fun k => ?_) 128
    rw [s.dutyAfterTick_of_armed c k hf, hi]
    split <;> rfl

/-- The sum of the written duties, in a channel that meets the invariant: the integer duty each time, and one for each
carry. -/
theorem State.dutySum_of_inv (s : State) (c : ChannelId) (hc : (s.ch c).Inv) (n : Nat) :
    s.dutySum c n = n * (s.ch c).integerDuty.toNat +
      ((s.ch c).accumulator.toNat + n * (s.ch c).fraction.toNat) / 128 := by
  induction n with
  | zero =>
    have ha := (s.ch c).accumulator.isLt
    rw [State.dutySum, Nat.zero_mul, Nat.zero_mul, Nat.add_zero, Nat.div_eq_of_lt ha]
  | succ n ih =>
    rw [State.dutySum, ih, s.dutyAfterTick_of_inv c n hc, Channel.carries_succ, Nat.succ_mul]
    omega

/-- Settles O48: n times the target is 128 times the sum, up to the difference of two accumulators. -/
theorem writtenDutiesAverageToTheTarget : Obligations.WrittenDutiesAverageToTheTarget := by
  intro s c hc
  have ha := (s.ch c).accumulator.isLt
  refine ⟨fun n => ?bounds, ?exact128⟩
  case bounds =>
    have htarget : n * (s.ch c).ramp =
        128 * (n * (s.ch c).integerDuty.toNat) + n * (s.ch c).fraction.toNat := by
      rw [Channel.ramp, Config.fracMod]
      ring
    rw [s.dutySum_of_inv c hc n, htarget]
    omega
  case exact128 =>
    rw [s.dutySum_of_inv c hc 128, Channel.ramp, Config.fracMod]
    omega

/-! ### The period -/

/-- The shortest period of the running sum of `f` modulo 128 (R106). -/
def dutyPeriod (f : Nat) : Nat := 128 / Nat.gcd f 128

/-- A number of TICKs brings the accumulator back exactly when it is a multiple of the period. -/
theorem dutyPeriod_dvd_iff (f p : Nat) : dutyPeriod f ∣ p ↔ 128 ∣ p * f := by
  have hpos : 0 < Nat.gcd f 128 := Nat.gcd_pos_of_pos_right f (by decide)
  have hcop : Nat.Coprime (dutyPeriod f) (f / Nat.gcd f 128) := (Nat.coprime_div_gcd_div_gcd hpos).symm
  have h128 : dutyPeriod f * Nat.gcd f 128 = 128 := Nat.div_mul_cancel (Nat.gcd_dvd_right f 128)
  have hf : f / Nat.gcd f 128 * Nat.gcd f 128 = f := Nat.div_mul_cancel (Nat.gcd_dvd_left f 128)
  calc dutyPeriod f ∣ p ↔ dutyPeriod f ∣ p * (f / Nat.gcd f 128) := hcop.dvd_mul_right.symm
    _ ↔ dutyPeriod f * Nat.gcd f 128 ∣ p * (f / Nat.gcd f 128) * Nat.gcd f 128 :=
      (Nat.mul_dvd_mul_iff_right hpos).symm
    _ ↔ 128 ∣ p * f := by rw [h128, Nat.mul_assoc, hf]

/-- After a multiple of the period the carries repeat. -/
theorem Channel.carriesAt_add (x : Channel) (p k : Nat) (hp : 128 ∣ p * x.fraction.toNat) :
    x.CarriesAt (k + p) ↔ x.CarriesAt k := by
  have hacc : (x.accumulator.toNat + (k + p) * x.fraction.toNat) % 128 =
      (x.accumulator.toNat + k * x.fraction.toNat) % 128 := by
    rw [Nat.add_mul, ← Nat.add_assoc]
    omega
  rw [Channel.CarriesAt, hacc]

/-- With a fraction of 0 every TICK after the first leaves the channel as it is. -/
theorem State.ch_ticked_of_fraction_zero (s : State) (c : ChannelId) (hf : (s.ch c).fraction.toNat = 0) (k : Nat) :
    (s.ticked (k + 1)).ch c = (s.ticked 1).ch c := by
  induction k with
  | zero => rfl
  | succ k ih =>
    have hf1 : ((s.ticked 1).ch c).fraction.toNat = 0 := by rw [State.fraction_ticked, hf]
    rw [State.ch_ticked_succ, ih]
    cases hgate : s.params.dsmGate
    case false =>
      refine Channel.gatedStep_of_fraction_zero _ _ hf1 ?_
      rw [State.ch_ticked_succ s c 0, hgate, Channel.gatedStep_false, Channel.integerDuty_dsmStep]
      exact Channel.dutyOut_dsmStep_of_fraction_zero _ hf
    case true => exact Channel.gatedStep_true_of_fraction_zero _ hf1

/-- The duty writes repeat with the period, from every state. -/
theorem State.dutyAfterTick_add_period (s : State) (c : ChannelId) (k : Nat) :
    s.dutyAfterTick c (k + dutyPeriod (s.ch c).fraction.toNat) = s.dutyAfterTick c k := by
  by_cases hf : (s.ch c).fraction = 0
  case pos =>
    have hf0 : (s.ch c).fraction.toNat = 0 := congrArg BitVec.toNat hf
    rw [State.dutyAfterTick, State.dutyAfterTick, s.ch_ticked_of_fraction_zero c hf0 (k + _),
      s.ch_ticked_of_fraction_zero c hf0 k]
  case neg =>
    have hperiod := (dutyPeriod_dvd_iff (s.ch c).fraction.toNat _).mp dvd_rfl
    rw [s.dutyAfterTick_of_armed c _ hf, s.dutyAfterTick_of_armed c k hf]
    simp only [(s.ch c).carriesAt_add _ k hperiod]

/-- Over a period of the duty writes the count of a value grows by the same amount wherever the period starts. -/
theorem State.dutyCount_add_period (s : State) (c : ChannelId) (d p : Nat)
    (hp : ∀ k, s.dutyAfterTick c (k + p) = s.dutyAfterTick c k) (k : Nat) :
    s.dutyCount c d (k + p) = s.dutyCount c d k + s.dutyCount c d p := by
  induction k with
  | zero => rw [Nat.zero_add, State.dutyCount.eq_1, Nat.zero_add]
  | succ k ih =>
    rw [Nat.succ_add, State.dutyCount, State.dutyCount.eq_2, ih, hp]
    omega

theorem State.dutyCount_mul_period (s : State) (c : ChannelId) (d p : Nat)
    (hp : ∀ k, s.dutyAfterTick c (k + p) = s.dutyAfterTick c k) (m : Nat) :
    s.dutyCount c d (m * p) = m * s.dutyCount c d p := by
  induction m with
  | zero => rw [Nat.zero_mul, Nat.zero_mul, State.dutyCount]
  | succ m ih => rw [Nat.succ_mul, s.dutyCount_add_period c d p hp, ih, Nat.succ_mul]

/-- Every period of the duty writes brings the accumulator back: over 128 periods the carries are 128 times those of one, and
they are also the fractions added in one period. -/
theorem State.dvd_of_dutyPeriodic (s : State) (c : ChannelId) (hc : (s.ch c).Inv) (p : Nat)
    (hp : ∀ k, s.dutyAfterTick c (k + p) = s.dutyAfterTick c k) : 128 ∣ p * (s.ch c).fraction.toNat := by
  have ha := (s.ch c).accumulator.isLt
  have hcount := s.dutyCount_mul_period c ((s.ch c).integerDuty.toNat + 1) p hp 128
  rw [s.dutyCount_succ_of_inv c hc (128 * p), Nat.mul_assoc] at hcount
  exact ⟨s.dutyCount c ((s.ch c).integerDuty.toNat + 1) p, by omega⟩

/-- Settles O47: a number of TICKs is a period exactly when it brings the accumulator back. -/
theorem dutyPatternIsPeriodic : Obligations.DutyPatternIsPeriodic := by
  intro s c
  refine ⟨?accumulator, s.dutyAfterTick_add_period c, fun hc _ p _ hp => ?shortest⟩
  case accumulator =>
    have ha := (s.ch c).accumulator.isLt
    apply BitVec.eq_of_toNat_eq
    rw [s.accumulator_ticked c 128]
    omega
  case shortest => exact (dutyPeriod_dvd_iff _ p).mpr (s.dvd_of_dutyPeriodic c hc p hp)

end Sys2Proof.Machine
end

section
/-! PROOFS. Rules of the whole machine: which operations write which register (spec/10_state.md section 1), what reaches what
(R20, R157), and that the zero-fraction gate cannot be observed (R108). -/

namespace Sys2Proof.Machine

/-! ### The writers of each register -/

/-- CONFIGURE does not touch a channel. -/
theorem exec_configure_ch (top : Duty) (cmode : CntMode) (s t : State) (h : exec (.configure top cmode) s = .next t)
    (c : ChannelId) : t.ch c = s.ch c := by
  rcases exec_configure_cases top cmode s t h with ⟨_, rfl⟩ | ⟨_, rfl⟩
  · rfl
  · rw [State.ch_lockConfig]

/-- PROPAGATE writes no accumulator (R124). -/
@[simp] theorem State.accumulator_propagate (s : State) (c : ChannelId) :
    (s.propagate.ch c).accumulator = (s.ch c).accumulator := by
  cases c <;> rfl

theorem exec_keeps_accumulator (i : Instr) (s t : State) (h : exec i s = .next t) (c : ChannelId)
    (hwriter : ¬ (i = .tick ∨ i = .reset)) : (t.ch c).accumulator = (s.ch c).accumulator := by
  cases i with
  | configure top cmode => rw [exec_configure_ch top cmode s t h]
  | setChannelMode m => cases h; rw [State.accumulator_propagate, State.ch_latchMode]
  | setRamp level => cases h; rw [State.accumulator_propagate, State.ch_latchRamp]
  | setBlend ratio => cases h; rw [State.accumulator_propagate, State.ch_latchBlend]
  | reset => exact absurd (.inr rfl) hwriter
  | tick => exact absurd (.inl rfl) hwriter

/-- The target and the enable are written by the resolver's commands and by RESET only. -/
theorem exec_keeps_target (i : Instr) (s t : State) (h : exec i s = .next t) (c : ChannelId)
    (hwriter : ¬ ((∃ m, i = .setChannelMode m) ∨ (∃ l, i = .setRamp l) ∨ (∃ r, i = .setBlend r) ∨ i = .reset)) :
    (t.ch c).integerDuty = (s.ch c).integerDuty ∧ (t.ch c).fraction = (s.ch c).fraction ∧
      (t.ch c).enabled = (s.ch c).enabled := by
  cases i with
  | configure top cmode =>
    rw [exec_configure_ch top cmode s t h]
    exact ⟨rfl, rfl, rfl⟩
  | tick =>
    cases h
    rw [State.ch_tick]
    exact ⟨Channel.integerDuty_gatedStep _ _, Channel.fraction_gatedStep _ _, Channel.enabled_gatedStep _ _⟩
  | setChannelMode m => exact absurd (.inl ⟨m, rfl⟩) hwriter
  | setRamp level => exact absurd (.inr (.inl ⟨level, rfl⟩)) hwriter
  | setBlend ratio => exact absurd (.inr (.inr (.inl ⟨ratio, rfl⟩))) hwriter
  | reset => exact absurd (.inr (.inr (.inr rfl))) hwriter

/-- Each latched input is written by its own command and by RESET only. -/
theorem exec_keeps_latches (i : Instr) (s t : State) (h : exec i s = .next t) :
    (¬ ((∃ l, i = .setRamp l) ∨ i = .reset) → t.globalRamp = s.globalRamp) ∧
    (¬ ((∃ m, i = .setChannelMode m) ∨ i = .reset) → t.chanMode = s.chanMode) ∧
    (¬ ((∃ r, i = .setBlend r) ∨ i = .reset) → t.blend = s.blend) := by
  cases i with
  | configure top cmode =>
    rcases exec_configure_cases top cmode s t h with ⟨_, rfl⟩ | ⟨_, rfl⟩ <;>
      exact ⟨fun _ => rfl, fun _ => rfl, fun _ => rfl⟩
  | setChannelMode m =>
    cases h
    exact ⟨fun _ => rfl, fun hw => absurd (.inl ⟨m, rfl⟩) hw, fun _ => rfl⟩
  | setRamp level =>
    cases h
    exact ⟨fun hw => absurd (.inl ⟨level, rfl⟩) hw, fun _ => rfl, fun _ => rfl⟩
  | setBlend ratio =>
    cases h
    exact ⟨fun _ => rfl, fun _ => rfl, fun hw => absurd (.inl ⟨ratio, rfl⟩) hw⟩
  | reset =>
    exact ⟨fun hw => absurd (.inr rfl) hw, fun hw => absurd (.inr rfl) hw, fun hw => absurd (.inr rfl) hw⟩
  | tick =>
    cases h
    exact ⟨fun _ => rfl, fun _ => rfl, fun _ => rfl⟩

/-- Settles O49: what is not one of a register's writers keeps it. -/
theorem registersChangeOnlyByTheirOperations : Obligations.RegistersChangeOnlyByTheirOperations := by
  intro i s t h
  obtain ⟨hramp, hmode, hblend⟩ := exec_keeps_latches i s t h
  refine ⟨fun c => not_imp_comm.mp (exec_keeps_accumulator i s t h c), fun c hne => ?target, ?duty, fun hne => ?config,
    not_imp_comm.mp hramp, not_imp_comm.mp hmode, not_imp_comm.mp hblend, exec_surroundings i s t h⟩
  case target =>
    by_contra hwriter
    obtain ⟨hi, hf, he⟩ := exec_keeps_target i s t h c hwriter
    rcases hne with hne | hne | hne
    · exact hne hi
    · exact hne hf
    · exact hne he
  case duty =>
    rintro c hne top cmode rfl
    exact hne (congrArg Channel.dutyOut (exec_configure_ch top cmode s t h c))
  case config =>
    by_contra hwriter
    obtain ⟨htop, hcmode, hlock⟩ := exec_keeps_config i s t h hwriter
    rcases hne with hne | hne | hne
    · exact hne htop
    · exact hne hcmode
    · exact hne hlock

/-! ### What reaches what -/

@[simp] theorem State.setCh_setCh_self (s : State) (c : ChannelId) (x y : Channel) :
    (s.setCh c x).setCh c y = s.setCh c y := by
  cases c <;> rfl

@[simp] theorem State.setCh_ch_self (s : State) (c : ChannelId) : s.setCh c (s.ch c) = s := by
  cases c <;> rfl

/-! The writes of the shared registers commute with a write of a channel. -/

theorem State.lockConfig_setCh (s : State) (c : ChannelId) (x : Channel) (top : Duty) (cmode : CntMode) :
    (s.setCh c x).lockConfig top cmode = (s.lockConfig top cmode).setCh c x := by
  cases c <;> rfl

theorem State.latchMode_setCh (s : State) (c : ChannelId) (x : Channel) (m : ChanMode) :
    (s.setCh c x).latchMode m = (s.latchMode m).setCh c x := by
  cases c <;> rfl

theorem State.latchRamp_setCh (s : State) (c : ChannelId) (x : Channel) (g : RampLevel) :
    (s.setCh c x).latchRamp g = (s.latchRamp g).setCh c x := by
  cases c <;> rfl

theorem State.latchBlend_setCh (s : State) (c : ChannelId) (x : Channel) (b : BlendRatio) :
    (s.setCh c x).latchBlend b = (s.latchBlend b).setCh c x := by
  cases c <;> rfl

/-- PROPAGATE works on each channel by itself. -/
theorem State.propagate_setCh (s : State) (c : ChannelId) (x : Channel) :
    ∃ y, (s.setCh c x).propagate = s.propagate.setCh c y := by
  cases c
  · exact ⟨x.setTarget (resolve s.globalRamp s.chanMode s.blend).1, rfl⟩
  · exact ⟨x.setTarget (resolve s.globalRamp s.chanMode s.blend).2, rfl⟩

/-- TICK works on each channel by itself. -/
theorem State.tick_setCh (s : State) (c : ChannelId) (x : Channel) :
    (s.setCh c x).tick = s.tick.setCh c (x.gatedStep s.params.dsmGate) := by
  cases c <;> rfl

/-- With other contents in a channel, an operation leaves the same state but for that channel. -/
theorem exec_setCh (i : Instr) (s t : State) (c : ChannelId) (x : Channel) (h : exec i s = .next t) :
    ∃ y, exec i (s.setCh c x) = .next (t.setCh c y) := by
  cases i with
  | configure top cmode =>
    refine ⟨x, ?_⟩
    rcases exec_configure_cases top cmode s t h with ⟨hl, rfl⟩ | ⟨hl, rfl⟩
    · exact exec_configure_locked _ _ _ ((State.cfgLocked_setCh _ c x).trans hl)
    · rw [exec_configure_unlocked _ _ _ ((s.cfgLocked_setCh c x).trans hl), State.lockConfig_setCh]
  | setChannelMode m =>
    cases h
    obtain ⟨y, hy⟩ := (s.latchMode (clampMode m.toNat)).propagate_setCh c x
    exact ⟨y, by rw [exec_setChannelMode, State.latchMode_setCh, hy]⟩
  | setRamp level =>
    cases h
    obtain ⟨y, hy⟩ := (s.latchRamp (clampRamp level.toNat)).propagate_setCh c x
    exact ⟨y, by rw [exec_setRamp, State.latchRamp_setCh, hy]⟩
  | setBlend ratio =>
    cases h
    obtain ⟨y, hy⟩ := (s.latchBlend (clampBlend ratio.toNat)).propagate_setCh c x
    exact ⟨y, by rw [exec_setBlend, State.latchBlend_setCh, hy]⟩
  | reset =>
    cases h
    refine ⟨Channel.reset, ?_⟩
    rw [exec_reset, State.params_setCh, State.inputs_setCh]
    cases c <;> rfl
  | tick =>
    cases h
    exact ⟨x.gatedStep s.params.dsmGate, by rw [exec_tick, State.tick_setCh]⟩

/-- Settles O50: writing back the channel's contents undoes the only difference. -/
theorem channelsDoNotReachEachOther : Obligations.ChannelsDoNotReachEachOther := by
  intro i s c x
  obtain ⟨t, ht⟩ := exec_next i s
  obtain ⟨y, hu⟩ := exec_setCh i s t c x ht
  exact ⟨t, t.setCh c y, ht, hu, by rw [State.setCh_setCh_self, State.setCh_ch_self]⟩

/-- Settles O51: TICK is a function of the channels and the gate, and writes the channels alone. -/
theorem tickIgnoresTheResolverInputs : Obligations.TickIgnoresTheResolverInputs := fun s _ _ _ =>
  ⟨s.tick, exec_tick s, exec_tick _⟩

/-! ### The zero-fraction gate -/

/-- The same block with the optional gate present or absent. -/
def State.withGate (s : State) (gate : Bool) : State := { s with params := { s.params with dsmGate := gate } }

/-- In a channel that meets the invariant the step that the gate skips would change nothing. -/
theorem Channel.Inv.gatedStep_eq {x : Channel} (hx : x.Inv) (gate gate' : Bool) :
    x.gatedStep gate = x.gatedStep gate' := by
  by_cases hf : x.fraction.toNat = 0
  case pos =>
    rw [x.gatedStep_of_fraction_zero gate hf (hx.duty.2 hf), x.gatedStep_of_fraction_zero gate' hf (hx.duty.2 hf)]
  case neg =>
    have hf' : x.fraction ≠ 0 := fun h => hf (congrArg BitVec.toNat h)
    rw [x.gatedStep_of_armed gate hf', x.gatedStep_of_armed gate' hf']

theorem State.Inv.tick_withGate {s : State} (hs : s.Inv) (gate : Bool) :
    (s.withGate gate).tick = s.tick.withGate gate := by
  change { s.withGate gate with ch1 := s.ch1.gatedStep gate, ch2 := s.ch2.gatedStep gate } = s.tick.withGate gate
  rw [hs.ch1.gatedStep_eq gate s.params.dsmGate, hs.ch2.gatedStep_eq gate s.params.dsmGate]
  rfl

/-- From a state that meets the invariant no operation's effect on the registers depends on the gate. -/
theorem exec_withGate (i : Instr) (s t : State) (gate : Bool) (hs : s.Inv) (h : exec i s = .next t) :
    exec i (s.withGate gate) = .next (t.withGate gate) := by
  cases i with
  | configure top cmode =>
    rcases exec_configure_cases top cmode s t h with ⟨hl, rfl⟩ | ⟨hl, rfl⟩
    · exact exec_configure_locked _ _ _ hl
    · exact exec_configure_unlocked _ _ _ hl
  | tick =>
    cases h
    rw [exec_tick, hs.tick_withGate]
  | setChannelMode m => cases h; rfl
  | setRamp level => cases h; rfl
  | setBlend ratio => cases h; rfl
  | reset => cases h; rfl

/-- The two states are one state that meets the invariant, with the gate and without it. -/
def GateTwins (s t : State) : Prop := ∃ r : State, r.Inv ∧ s = r.withGate true ∧ t = r.withGate false

theorem keptByOperations_gateTwins : KeptByOperations GateTwins where
  inputs := by
    rintro s t ⟨r, _, rfl, rfl⟩
    rfl
  withInputs := by
    rintro s t es ⟨r, hr, rfl, rfl⟩
    exact ⟨r.withInputs es, hr.withInputs es, rfl, rfl⟩
  exec := by
    rintro s t i ⟨r, hr, rfl, rfl⟩
    obtain ⟨r', h⟩ := exec_next i r
    exact ⟨r'.withGate true, r'.withGate false, exec_withGate i r r' true hr h, exec_withGate i r r' false hr h,
      r', exec_keeps_inv i r r' h hr, rfl, rfl⟩

/-- Settles O41: the two blocks start as one state with the gate and without it, and stay so. -/
theorem zeroFractionGateIsUnobservable : Obligations.ZeroFractionGateIsUnobservable := by
  intro n s hs
  have htwins : GateTwins (s.withGate true) (s.withGate false) := ⟨s, hs, rfl, rfl⟩
  obtain ⟨t, u, ht, hu, r, _, rfl, rfl⟩ := keptByOperations_gateTwins.runsTo n htwins
  exact ⟨_, _, ht, hu, rfl⟩

end Sys2Proof.Machine
end
